-- ==== Sys2Proof/Word.lean ====
section
/-! DEFINITION. The word types: bytes, the 24-bit checksum word, the frame buffer of 14 byte registers, and the two
sequences of bytes a DECODE works on (the characters of a line, the bytes of a payload). -/

namespace Sys2Proof

/-- A byte, a frame-buffer register or a character code (00_scope.md R8, 40_frame_validator.md R120). -/
abbrev Byte := BitVec 8

/-- A checksum word (`T_W` = 24, 00_scope.md R6). -/
abbrev Crc24 := BitVec 24

/-- The frame buffer `B[0..13]`: 14 registers of 8 bits (10_state.md R28). -/
abbrev FrameBuf := Vector Byte 14

/-- A line: a finite sequence of 8-bit character codes of any length (40_frame_validator.md R120). -/
abbrev Line := List Byte

/-- A payload: the bytes a line's hex pairs stand for, in order (00_scope.md glossary, "frame, RawFrame"). -/
abbrev Payload := List Byte

end Sys2Proof
end

