-- ==== Sys2Proof/Config.lean ====
section
/-! DEFINITION. What one build of the block fixes: the constants of 00_scope.md R6, the default counter
width, and the shape of the other named parameters of R7, which the step function takes as an argument; their defaults stand in
Sys2Proof/Machine/Parameters.lean. There is no free value: 93_implementation_defined.md leaves no result open (U1 to U20). -/

namespace Sys2Proof

/-- The default of `CNT_W`, the width of each statistics counter in bits (R7, decision D10). The width is an argument of State
and of the step function, whose default this is. -/
abbrev Config.cntW : Nat := 32

/-- One statistics counter, `CNT_W` bits wide. -/
abbrev Counter (cntW : Nat := Config.cntW) := BitVec cntW

/-- `VEL_LAYOUT` (R7): the first message bit of each airborne-velocity field. The widths (1, 10, 1, 10, 1, 1, 9) are the
source's and are not parameters. -/
structure VelLayout where
  ewDir       : Nat
  ewSpeed     : Nat
  nsDir       : Nat
  nsSpeed     : Nat
  vrSource    : Nat
  vrSign      : Nat
  vrMagnitude : Nat
deriving DecidableEq, Repr

/-- The read-only constants of the block and the layout it is built with (10_state.md R33; R7): no part of State, an argument
of the step function `Machine.stepOver`. -/
structure Parameters where
  /-- `T[0..111]` -/
  crcTable  : List Crc24
  /-- `CH[0..63]` -/
  charSet   : List Byte
  /-- `VEL_LAYOUT` -/
  velLayout : VelLayout
  /-- `DIR_NEG` -/
  dirNeg    : Bool
deriving DecidableEq, Repr

/-- `PAY_MAX` (R6): the most payload characters a line may have. -/
def Config.payMax : Nat := 28

/-- `ALT_STEP` and `ALT_BIAS` (R6), in feet. -/
def Config.altStep : Int := 25

/-- See `Config.altStep`. -/
def Config.altBias : Int := 1000

/-- `LONG_DF` (R6): the downlink formats framed as 112 bits. -/
def Config.longDf : List (BitVec 5) := [16, 17, 19, 20, 21]

/-- `ES_DF` (R6): the downlink formats that reach the extended-squitter sub-decoders. -/
def Config.esDf : List (BitVec 5) := [17, 18]

/-- `AC13_DF` (R6): the downlink formats with a 13-bit altitude. -/
def Config.ac13Df : List (BitVec 5) := [0, 4, 16, 20]

/-- `FS_DF` (R6): the downlink formats with flight status, downlink request and utility message. -/
def Config.fsDf : List (BitVec 5) := [4, 5, 20, 21]

/-- `CA_DF` (R6): the downlink format with a capability code. -/
def Config.caDf : List (BitVec 5) := [11]

end Sys2Proof
end

