-- ==== Sys2Proof/Machine/Parameters.lean ====
section
/-! DEFINITION. The named parameters of 00_scope.md R7 whose values the source does not give, at the defaults the spec chose:
the CRC constants, the character set, the velocity layout and the direction polarity. -/

namespace Sys2Proof

/-- `T[0..111]` (41_crc.md R140, R141; decision D20, log entry 2): the CRC constants, eight to a line as in the spec. -/
def Config.crcTable : List Crc24 :=
  [0x3935ea, 0x1c9af5, 0xf1b77e, 0x78dbbf, 0xc397db, 0x9e31e9, 0xb0e2f0, 0x587178]
  ++ [0x2c38bc, 0x161c5e, 0x0b0e2f, 0xfa7d13, 0x82c48d, 0xbe9842, 0x5f4c21, 0xd05c14]
  ++ [0x682e0a, 0x341705, 0xe5f186, 0x72f8c3, 0xc68665, 0x9cb936, 0x4e5c9b, 0xd8d449]
  ++ [0x939020, 0x49c810, 0x24e408, 0x127204, 0x093902, 0x049c81, 0xfdb444, 0x7eda22]
  ++ [0x3f6d11, 0xe04c8c, 0x702646, 0x381323, 0xe3f395, 0x8e03ce, 0x4701e7, 0xdc7af7]
  ++ [0x91c77f, 0xb719bb, 0xa476d9, 0xadc168, 0x56e0b4, 0x2b705a, 0x15b82d, 0xf52612]
  ++ [0x7a9309, 0xc2b380, 0x6159c0, 0x30ace0, 0x185670, 0x0c2b38, 0x06159c, 0x030ace]
  ++ [0x018567, 0xff38b7, 0x80665f, 0xbfc92b, 0xa01e91, 0xaff54c, 0x57faa6, 0x2bfd53]
  ++ [0xea04ad, 0x8af852, 0x457c29, 0xdd4410, 0x6ea208, 0x375104, 0x1ba882, 0x0dd441]
  ++ [0xf91024, 0x7c8812, 0x3e4409, 0xe0d800, 0x706c00, 0x383600, 0x1c1b00, 0x0e0d80]
  ++ [0x0706c0, 0x038360, 0x01c1b0, 0x00e0d8, 0x00706c, 0x003836, 0x001c1b, 0xfff409]
  ++ [0x000000, 0x000000, 0x000000, 0x000000, 0x000000, 0x000000, 0x000000, 0x000000]
  ++ [0x000000, 0x000000, 0x000000, 0x000000, 0x000000, 0x000000, 0x000000, 0x000000]
  ++ [0x000000, 0x000000, 0x000000, 0x000000, 0x000000, 0x000000, 0x000000, 0x000000]

/-- `CH[0..63]` (43_extended_squitter.md R222; decision D16, log entry 3):
`?ABCDEFGHIJKLMNOPQRSTUVWXYZ????? ???????????????0123456789??????` as 8-bit codes. -/
def Config.charSet : List Byte :=
  [0x3F, 0x41, 0x42, 0x43, 0x44, 0x45, 0x46, 0x47, 0x48, 0x49, 0x4A, 0x4B, 0x4C, 0x4D, 0x4E, 0x4F]
  ++ [0x50, 0x51, 0x52, 0x53, 0x54, 0x55, 0x56, 0x57, 0x58, 0x59, 0x5A, 0x3F, 0x3F, 0x3F, 0x3F, 0x3F]
  ++ [0x20, 0x3F, 0x3F, 0x3F, 0x3F, 0x3F, 0x3F, 0x3F, 0x3F, 0x3F, 0x3F, 0x3F, 0x3F, 0x3F, 0x3F, 0x3F]
  ++ [0x30, 0x31, 0x32, 0x33, 0x34, 0x35, 0x36, 0x37, 0x38, 0x39, 0x3F, 0x3F, 0x3F, 0x3F, 0x3F, 0x3F]

/-- The default `VEL_LAYOUT` (30_encoding.md R93; decision D21, log entry 4). -/
def Config.velLayout : VelLayout :=
  { ewDir := 45, ewSpeed := 46, nsDir := 56, nsSpeed := 57, vrSource := 67, vrSign := 68, vrMagnitude := 69 }

/-- `DIR_NEG` (R7; decision D21, log entry 4): the direction bit that makes a speed negative. -/
def Config.dirNeg : Bool := true

/-- The parameters at the defaults the spec chose (R7). -/
def Config.parameters : Parameters where
  crcTable := Config.crcTable
  charSet := Config.charSet
  velLayout := Config.velLayout
  dirNeg := Config.dirNeg

end Sys2Proof
end

