-- ==== Sys2Proof/Syntax.lean ====
section
/-! DEFINITION. The instructions: one constructor per row of opcode_table.json. The 110 frame classes carry the payload
bytes of the frame (30_encoding.md R99); the four host commands are 44_commands.md R250, R254. -/

namespace Sys2Proof

/-- The three validation errors (60_exceptions.md R270). -/
inductive ValidationError where
  | invalid
  | tooShort
  | tooLong
deriving DecidableEq, Repr

/-- The two frame formats (30_encoding.md R82). -/
inductive FrameFormat where
  | short56
  | long112
deriving DecidableEq, Repr

/-- One command as the host presents it: the 2-bit code (30_encoding.md R100) and the line, which only DECODE reads. -/
structure CommandWord where
  code : BitVec 2
  line : Line
deriving DecidableEq, Repr

/-- An instruction. `decode line` is the DECODE command on a line as a whole (R251); a DECODE of a line that carries a frame
is fetched as the frame's class, `dfN payload`. -/
inductive Instr where
  | df0 (p : Payload)
  | df1 (p : Payload)
  | df2 (p : Payload)
  | df3 (p : Payload)
  | df4 (p : Payload)
  | df5 (p : Payload)
  | df6 (p : Payload)
  | df7 (p : Payload)
  | df8 (p : Payload)
  | df9 (p : Payload)
  | df10 (p : Payload)
  | df11 (p : Payload)
  | df12 (p : Payload)
  | df13 (p : Payload)
  | df14 (p : Payload)
  | df15 (p : Payload)
  | df16 (p : Payload)
  | df17Noes (p : Payload)
  | df17NoneT0 (p : Payload)
  | df17IdentT1 (p : Payload)
  | df17IdentT2 (p : Payload)
  | df17IdentT3 (p : Payload)
  | df17IdentT4 (p : Payload)
  | df17NoneT5 (p : Payload)
  | df17NoneT6 (p : Payload)
  | df17NoneT7 (p : Payload)
  | df17NoneT8 (p : Payload)
  | df17AirposT9 (p : Payload)
  | df17AirposT10 (p : Payload)
  | df17AirposT11 (p : Payload)
  | df17AirposT12 (p : Payload)
  | df17AirposT13 (p : Payload)
  | df17AirposT14 (p : Payload)
  | df17AirposT15 (p : Payload)
  | df17AirposT16 (p : Payload)
  | df17AirposT17 (p : Payload)
  | df17AirposT18 (p : Payload)
  | df17NoneT19S0 (p : Payload)
  | df17VelGsT19S1 (p : Payload)
  | df17VelGsT19S2 (p : Payload)
  | df17VelHdgT19S3 (p : Payload)
  | df17VelHdgT19S4 (p : Payload)
  | df17NoneT19S5 (p : Payload)
  | df17NoneT19S6 (p : Payload)
  | df17NoneT19S7 (p : Payload)
  | df17NoneT20 (p : Payload)
  | df17NoneT21 (p : Payload)
  | df17NoneT22 (p : Payload)
  | df17NoneT23 (p : Payload)
  | df17NoneT24 (p : Payload)
  | df17NoneT25 (p : Payload)
  | df17NoneT26 (p : Payload)
  | df17NoneT27 (p : Payload)
  | df17NoneT28 (p : Payload)
  | df17NoneT29 (p : Payload)
  | df17NoneT30 (p : Payload)
  | df17NoneT31 (p : Payload)
  | df18Noes (p : Payload)
  | df18NoneT0 (p : Payload)
  | df18IdentT1 (p : Payload)
  | df18IdentT2 (p : Payload)
  | df18IdentT3 (p : Payload)
  | df18IdentT4 (p : Payload)
  | df18NoneT5 (p : Payload)
  | df18NoneT6 (p : Payload)
  | df18NoneT7 (p : Payload)
  | df18NoneT8 (p : Payload)
  | df18AirposT9 (p : Payload)
  | df18AirposT10 (p : Payload)
  | df18AirposT11 (p : Payload)
  | df18AirposT12 (p : Payload)
  | df18AirposT13 (p : Payload)
  | df18AirposT14 (p : Payload)
  | df18AirposT15 (p : Payload)
  | df18AirposT16 (p : Payload)
  | df18AirposT17 (p : Payload)
  | df18AirposT18 (p : Payload)
  | df18NoneT19S0 (p : Payload)
  | df18VelGsT19S1 (p : Payload)
  | df18VelGsT19S2 (p : Payload)
  | df18VelHdgT19S3 (p : Payload)
  | df18VelHdgT19S4 (p : Payload)
  | df18NoneT19S5 (p : Payload)
  | df18NoneT19S6 (p : Payload)
  | df18NoneT19S7 (p : Payload)
  | df18NoneT20 (p : Payload)
  | df18NoneT21 (p : Payload)
  | df18NoneT22 (p : Payload)
  | df18NoneT23 (p : Payload)
  | df18NoneT24 (p : Payload)
  | df18NoneT25 (p : Payload)
  | df18NoneT26 (p : Payload)
  | df18NoneT27 (p : Payload)
  | df18NoneT28 (p : Payload)
  | df18NoneT29 (p : Payload)
  | df18NoneT30 (p : Payload)
  | df18NoneT31 (p : Payload)
  | df19 (p : Payload)
  | df20 (p : Payload)
  | df21 (p : Payload)
  | df22 (p : Payload)
  | df23 (p : Payload)
  | df24 (p : Payload)
  | df25 (p : Payload)
  | df26 (p : Payload)
  | df27 (p : Payload)
  | df28 (p : Payload)
  | df29 (p : Payload)
  | df30 (p : Payload)
  | df31 (p : Payload)
  | nop
  | decode (line : Line)
  | statsRead
  | statsReset
deriving DecidableEq, Repr

end Sys2Proof
end

