-- ==== Sys2Proof/WellFormed.lean ====
section
/-! DEFINITION. Which instructions are well formed. A frame class's payload has the row's match under the row's mask and
meets the row's condition on `N` (30_encoding.md R99). A DECODE that stays `decode line` is one whose line carries no frame:
it is not a well-formed line in the sense of R80. -/

namespace Sys2Proof

/-- One frame-class row of opcode_table.json: 40-bit mask and match over the first five frame bytes, and the row's `cond`
on the payload length. -/
structure ClassRow where
  mask : BitVec 40
  want : BitVec 40
  nMin : Nat
  nMax : Nat
deriving DecidableEq, Repr

/-- `cat(B[0], B[1], B[2], B[3], B[4])`, bytes the payload does not supply being zero (30_encoding.md R99). -/
def head40 (p : Payload) : BitVec 40 :=
  p.getD 0 0 ++ p.getD 1 0 ++ p.getD 2 0 ++ p.getD 3 0 ++ p.getD 4 0

/-- A frame belongs to a row when the masked head equals the match and the row's `cond` holds (R99). -/
def ClassRow.admits (r : ClassRow) (p : Payload) : Bool :=
  head40 p &&& r.mask == r.want && decide (r.nMin ≤ p.length) && decide (p.length ≤ r.nMax)

/-- The row of the table a frame-class instruction stands for, with its payload; none for the four commands. -/
def classRow : Instr → Option (ClassRow × Payload)
  | .df0 p => some (⟨0xF800000000, 0x0000000000, 1, 14⟩, p)
  | .df1 p => some (⟨0xF800000000, 0x0800000000, 1, 14⟩, p)
  | .df2 p => some (⟨0xF800000000, 0x1000000000, 1, 14⟩, p)
  | .df3 p => some (⟨0xF800000000, 0x1800000000, 1, 14⟩, p)
  | .df4 p => some (⟨0xF800000000, 0x2000000000, 1, 14⟩, p)
  | .df5 p => some (⟨0xF800000000, 0x2800000000, 1, 14⟩, p)
  | .df6 p => some (⟨0xF800000000, 0x3000000000, 1, 14⟩, p)
  | .df7 p => some (⟨0xF800000000, 0x3800000000, 1, 14⟩, p)
  | .df8 p => some (⟨0xF800000000, 0x4000000000, 1, 14⟩, p)
  | .df9 p => some (⟨0xF800000000, 0x4800000000, 1, 14⟩, p)
  | .df10 p => some (⟨0xF800000000, 0x5000000000, 1, 14⟩, p)
  | .df11 p => some (⟨0xF800000000, 0x5800000000, 1, 14⟩, p)
  | .df12 p => some (⟨0xF800000000, 0x6000000000, 1, 14⟩, p)
  | .df13 p => some (⟨0xF800000000, 0x6800000000, 1, 14⟩, p)
  | .df14 p => some (⟨0xF800000000, 0x7000000000, 1, 14⟩, p)
  | .df15 p => some (⟨0xF800000000, 0x7800000000, 1, 14⟩, p)
  | .df16 p => some (⟨0xF800000000, 0x8000000000, 1, 14⟩, p)
  | .df17Noes p => some (⟨0xF800000000, 0x8800000000, 1, 10⟩, p)
  | .df17NoneT0 p => some (⟨0xF8000000F8, 0x8800000000, 11, 14⟩, p)
  | .df17IdentT1 p => some (⟨0xF8000000F8, 0x8800000008, 11, 14⟩, p)
  | .df17IdentT2 p => some (⟨0xF8000000F8, 0x8800000010, 11, 14⟩, p)
  | .df17IdentT3 p => some (⟨0xF8000000F8, 0x8800000018, 11, 14⟩, p)
  | .df17IdentT4 p => some (⟨0xF8000000F8, 0x8800000020, 11, 14⟩, p)
  | .df17NoneT5 p => some (⟨0xF8000000F8, 0x8800000028, 11, 14⟩, p)
  | .df17NoneT6 p => some (⟨0xF8000000F8, 0x8800000030, 11, 14⟩, p)
  | .df17NoneT7 p => some (⟨0xF8000000F8, 0x8800000038, 11, 14⟩, p)
  | .df17NoneT8 p => some (⟨0xF8000000F8, 0x8800000040, 11, 14⟩, p)
  | .df17AirposT9 p => some (⟨0xF8000000F8, 0x8800000048, 11, 14⟩, p)
  | .df17AirposT10 p => some (⟨0xF8000000F8, 0x8800000050, 11, 14⟩, p)
  | .df17AirposT11 p => some (⟨0xF8000000F8, 0x8800000058, 11, 14⟩, p)
  | .df17AirposT12 p => some (⟨0xF8000000F8, 0x8800000060, 11, 14⟩, p)
  | .df17AirposT13 p => some (⟨0xF8000000F8, 0x8800000068, 11, 14⟩, p)
  | .df17AirposT14 p => some (⟨0xF8000000F8, 0x8800000070, 11, 14⟩, p)
  | .df17AirposT15 p => some (⟨0xF8000000F8, 0x8800000078, 11, 14⟩, p)
  | .df17AirposT16 p => some (⟨0xF8000000F8, 0x8800000080, 11, 14⟩, p)
  | .df17AirposT17 p => some (⟨0xF8000000F8, 0x8800000088, 11, 14⟩, p)
  | .df17AirposT18 p => some (⟨0xF8000000F8, 0x8800000090, 11, 14⟩, p)
  | .df17NoneT19S0 p => some (⟨0xF8000000FF, 0x8800000098, 11, 14⟩, p)
  | .df17VelGsT19S1 p => some (⟨0xF8000000FF, 0x8800000099, 11, 14⟩, p)
  | .df17VelGsT19S2 p => some (⟨0xF8000000FF, 0x880000009A, 11, 14⟩, p)
  | .df17VelHdgT19S3 p => some (⟨0xF8000000FF, 0x880000009B, 11, 14⟩, p)
  | .df17VelHdgT19S4 p => some (⟨0xF8000000FF, 0x880000009C, 11, 14⟩, p)
  | .df17NoneT19S5 p => some (⟨0xF8000000FF, 0x880000009D, 11, 14⟩, p)
  | .df17NoneT19S6 p => some (⟨0xF8000000FF, 0x880000009E, 11, 14⟩, p)
  | .df17NoneT19S7 p => some (⟨0xF8000000FF, 0x880000009F, 11, 14⟩, p)
  | .df17NoneT20 p => some (⟨0xF8000000F8, 0x88000000A0, 11, 14⟩, p)
  | .df17NoneT21 p => some (⟨0xF8000000F8, 0x88000000A8, 11, 14⟩, p)
  | .df17NoneT22 p => some (⟨0xF8000000F8, 0x88000000B0, 11, 14⟩, p)
  | .df17NoneT23 p => some (⟨0xF8000000F8, 0x88000000B8, 11, 14⟩, p)
  | .df17NoneT24 p => some (⟨0xF8000000F8, 0x88000000C0, 11, 14⟩, p)
  | .df17NoneT25 p => some (⟨0xF8000000F8, 0x88000000C8, 11, 14⟩, p)
  | .df17NoneT26 p => some (⟨0xF8000000F8, 0x88000000D0, 11, 14⟩, p)
  | .df17NoneT27 p => some (⟨0xF8000000F8, 0x88000000D8, 11, 14⟩, p)
  | .df17NoneT28 p => some (⟨0xF8000000F8, 0x88000000E0, 11, 14⟩, p)
  | .df17NoneT29 p => some (⟨0xF8000000F8, 0x88000000E8, 11, 14⟩, p)
  | .df17NoneT30 p => some (⟨0xF8000000F8, 0x88000000F0, 11, 14⟩, p)
  | .df17NoneT31 p => some (⟨0xF8000000F8, 0x88000000F8, 11, 14⟩, p)
  | .df18Noes p => some (⟨0xF800000000, 0x9000000000, 1, 10⟩, p)
  | .df18NoneT0 p => some (⟨0xF8000000F8, 0x9000000000, 11, 14⟩, p)
  | .df18IdentT1 p => some (⟨0xF8000000F8, 0x9000000008, 11, 14⟩, p)
  | .df18IdentT2 p => some (⟨0xF8000000F8, 0x9000000010, 11, 14⟩, p)
  | .df18IdentT3 p => some (⟨0xF8000000F8, 0x9000000018, 11, 14⟩, p)
  | .df18IdentT4 p => some (⟨0xF8000000F8, 0x9000000020, 11, 14⟩, p)
  | .df18NoneT5 p => some (⟨0xF8000000F8, 0x9000000028, 11, 14⟩, p)
  | .df18NoneT6 p => some (⟨0xF8000000F8, 0x9000000030, 11, 14⟩, p)
  | .df18NoneT7 p => some (⟨0xF8000000F8, 0x9000000038, 11, 14⟩, p)
  | .df18NoneT8 p => some (⟨0xF8000000F8, 0x9000000040, 11, 14⟩, p)
  | .df18AirposT9 p => some (⟨0xF8000000F8, 0x9000000048, 11, 14⟩, p)
  | .df18AirposT10 p => some (⟨0xF8000000F8, 0x9000000050, 11, 14⟩, p)
  | .df18AirposT11 p => some (⟨0xF8000000F8, 0x9000000058, 11, 14⟩, p)
  | .df18AirposT12 p => some (⟨0xF8000000F8, 0x9000000060, 11, 14⟩, p)
  | .df18AirposT13 p => some (⟨0xF8000000F8, 0x9000000068, 11, 14⟩, p)
  | .df18AirposT14 p => some (⟨0xF8000000F8, 0x9000000070, 11, 14⟩, p)
  | .df18AirposT15 p => some (⟨0xF8000000F8, 0x9000000078, 11, 14⟩, p)
  | .df18AirposT16 p => some (⟨0xF8000000F8, 0x9000000080, 11, 14⟩, p)
  | .df18AirposT17 p => some (⟨0xF8000000F8, 0x9000000088, 11, 14⟩, p)
  | .df18AirposT18 p => some (⟨0xF8000000F8, 0x9000000090, 11, 14⟩, p)
  | .df18NoneT19S0 p => some (⟨0xF8000000FF, 0x9000000098, 11, 14⟩, p)
  | .df18VelGsT19S1 p => some (⟨0xF8000000FF, 0x9000000099, 11, 14⟩, p)
  | .df18VelGsT19S2 p => some (⟨0xF8000000FF, 0x900000009A, 11, 14⟩, p)
  | .df18VelHdgT19S3 p => some (⟨0xF8000000FF, 0x900000009B, 11, 14⟩, p)
  | .df18VelHdgT19S4 p => some (⟨0xF8000000FF, 0x900000009C, 11, 14⟩, p)
  | .df18NoneT19S5 p => some (⟨0xF8000000FF, 0x900000009D, 11, 14⟩, p)
  | .df18NoneT19S6 p => some (⟨0xF8000000FF, 0x900000009E, 11, 14⟩, p)
  | .df18NoneT19S7 p => some (⟨0xF8000000FF, 0x900000009F, 11, 14⟩, p)
  | .df18NoneT20 p => some (⟨0xF8000000F8, 0x90000000A0, 11, 14⟩, p)
  | .df18NoneT21 p => some (⟨0xF8000000F8, 0x90000000A8, 11, 14⟩, p)
  | .df18NoneT22 p => some (⟨0xF8000000F8, 0x90000000B0, 11, 14⟩, p)
  | .df18NoneT23 p => some (⟨0xF8000000F8, 0x90000000B8, 11, 14⟩, p)
  | .df18NoneT24 p => some (⟨0xF8000000F8, 0x90000000C0, 11, 14⟩, p)
  | .df18NoneT25 p => some (⟨0xF8000000F8, 0x90000000C8, 11, 14⟩, p)
  | .df18NoneT26 p => some (⟨0xF8000000F8, 0x90000000D0, 11, 14⟩, p)
  | .df18NoneT27 p => some (⟨0xF8000000F8, 0x90000000D8, 11, 14⟩, p)
  | .df18NoneT28 p => some (⟨0xF8000000F8, 0x90000000E0, 11, 14⟩, p)
  | .df18NoneT29 p => some (⟨0xF8000000F8, 0x90000000E8, 11, 14⟩, p)
  | .df18NoneT30 p => some (⟨0xF8000000F8, 0x90000000F0, 11, 14⟩, p)
  | .df18NoneT31 p => some (⟨0xF8000000F8, 0x90000000F8, 11, 14⟩, p)
  | .df19 p => some (⟨0xF800000000, 0x9800000000, 1, 14⟩, p)
  | .df20 p => some (⟨0xF800000000, 0xA000000000, 1, 14⟩, p)
  | .df21 p => some (⟨0xF800000000, 0xA800000000, 1, 14⟩, p)
  | .df22 p => some (⟨0xF800000000, 0xB000000000, 1, 14⟩, p)
  | .df23 p => some (⟨0xF800000000, 0xB800000000, 1, 14⟩, p)
  | .df24 p => some (⟨0xF800000000, 0xC000000000, 1, 14⟩, p)
  | .df25 p => some (⟨0xF800000000, 0xC800000000, 1, 14⟩, p)
  | .df26 p => some (⟨0xF800000000, 0xD000000000, 1, 14⟩, p)
  | .df27 p => some (⟨0xF800000000, 0xD800000000, 1, 14⟩, p)
  | .df28 p => some (⟨0xF800000000, 0xE000000000, 1, 14⟩, p)
  | .df29 p => some (⟨0xF800000000, 0xE800000000, 1, 14⟩, p)
  | .df30 p => some (⟨0xF800000000, 0xF000000000, 1, 14⟩, p)
  | .df31 p => some (⟨0xF800000000, 0xF800000000, 1, 14⟩, p)
  | .nop => none
  | .decode _ => none
  | .statsRead => none
  | .statsReset => none

/-- A hexadecimal digit character, of either case (30_encoding.md R81). -/
def isHexDigit (c : Byte) : Bool :=
  (0x30 ≤ c && c ≤ 0x39) || (0x41 ≤ c && c ≤ 0x46) || (0x61 ≤ c && c ≤ 0x66)

/-- A well-formed line (30_encoding.md R80): `*`, then `2N` hex digits for some `N` from 1 to 14, then `;`, and nothing
else. -/
def isWireLine (s : Line) : Bool :=
  s.head? == some 0x2A && s.getLast? == some 0x3B
    && decide (4 ≤ s.length) && decide (s.length ≤ 30) && s.length % 2 == 0
    && s.tail.dropLast.all isHexDigit

/-- The check on one instruction. -/
def wellFormed (i : Instr) : Bool :=
  match classRow i, i with
  | some (r, p), _ => r.admits p
  | none, .decode line => !isWireLine line
  | none, _ => true

/-- The instruction is well formed. -/
abbrev WellFormed (i : Instr) : Prop := wellFormed i = true

end Sys2Proof
end

