-- ==== Sys2Proof/Decode.lean ====
section
/-! DEFINITION. From a command word to an instruction, total on every word, and back. A DECODE's line goes through the
Frame Validator (40_frame_validator.md): a line that carries a frame is classified by its downlink format and, for formats
17 and 18, by `metype` and `mesub` (30_encoding.md R96, R97); a line the validator rejects stays `decode line`, rejected by
the name of its error. The encoder is written from R80, R81 and R100. -/

namespace Sys2Proof

/-! ## Characters -/

/-- `*` (30_encoding.md R81). -/
def starChar : Byte := 0x2A

/-- `;` (R81). -/
def semiChar : Byte := 0x3B

/-- `hexval(c)` (R81): the value of a hex digit of either case, none for every other code. -/
def hexval (c : Byte) : Option (BitVec 4) :=
  if 0x30 ≤ c && c ≤ 0x39 then some ((c - 0x30).setWidth 4)
  else if 0x41 ≤ c && c ≤ 0x46 then some ((c - 0x41 + 10).setWidth 4)
  else if 0x61 ≤ c && c ≤ 0x66 then some ((c - 0x61 + 10).setWidth 4)
  else none

/-- The lower-case digit of a nibble (R81). -/
def hexDigit (v : BitVec 4) : Byte :=
  if v < 10 then 0x30 + v.setWidth 8 else 0x61 + (v.setWidth 8 - 10)

/-! ## The Frame Validator -/

/-- The four ways the validator ends (40_frame_validator.md R129). -/
inductive Verdict where
  | loaded (p : Payload)
  | raised (e : ValidationError)
deriving DecidableEq, Repr

/-- The payload characters two at a time, the first of a pair the high nibble (20_memory.md R52, R126); none when a
character is no hex digit or one is left over (R124). -/
def hexPairs : List Byte → Option Payload
  | [] => some []
  | [_] => none
  | a :: b :: rest =>
    match hexval a, hexval b, hexPairs rest with
    | some h, some l, some bytes => some ((h ++ l) :: bytes)
    | _, _, _ => none

/-- The Frame Validator: the four tests in the order of 40_frame_validator.md R125. -/
def validate (s : Line) : Verdict :=
  if s.length = 0 ∨ s.head? ≠ some starChar ∨ s.getLast? ≠ some semiChar then .raised .invalid
  else if s.length - 2 ≤ 1 then .raised .tooShort
  else if s.length - 2 > Config.payMax then .raised .tooLong
  else if (s.length - 2) % 2 = 1 then .raised .invalid
  else
    match hexPairs s.tail.dropLast with
    | none => .raised .invalid
    | some p => .loaded p

/-! ## The frame and its format fields -/

/-- The buffer after the frame load: cleared to zero, then the payload's bytes (R126, 20_memory.md R54). -/
def frameOf (p : Payload) : FrameBuf := Vector.ofFn fun i => p.getD i.val 0

/-- `B[i]` (00_scope.md R14). Every rule reads an index from 0 to 13. -/
def FrameBuf.byte (B : FrameBuf) (i : Nat) : Byte := B[i]?.getD 0

/-- `downlink_format = B[0][7:3]` (42_dispatch_common.md R160). -/
def downlinkFormat (B : FrameBuf) : BitVec 5 := (B.byte 0).extractLsb 7 3

/-- `metype = B[4][7:3]` (42_dispatch_common.md R166). -/
def metype (B : FrameBuf) : BitVec 5 := (B.byte 4).extractLsb 7 3

/-- `mesub = B[4][2:0]` (42_dispatch_common.md R166). -/
def mesub (B : FrameBuf) : BitVec 3 := (B.byte 4).extractLsb 2 0

/-! ## The class map -/

/-- The extended-squitter classes of format 17, by `metype` and, for `metype` 19, `mesub` (30_encoding.md R97). -/
def classifyEs17 (p : Payload) : Instr :=
  match (metype (frameOf p)).toNat with
  | 0 => .df17NoneT0 p
  | 1 => .df17IdentT1 p
  | 2 => .df17IdentT2 p
  | 3 => .df17IdentT3 p
  | 4 => .df17IdentT4 p
  | 5 => .df17NoneT5 p
  | 6 => .df17NoneT6 p
  | 7 => .df17NoneT7 p
  | 8 => .df17NoneT8 p
  | 9 => .df17AirposT9 p
  | 10 => .df17AirposT10 p
  | 11 => .df17AirposT11 p
  | 12 => .df17AirposT12 p
  | 13 => .df17AirposT13 p
  | 14 => .df17AirposT14 p
  | 15 => .df17AirposT15 p
  | 16 => .df17AirposT16 p
  | 17 => .df17AirposT17 p
  | 18 => .df17AirposT18 p
  | 19 =>
    match (mesub (frameOf p)).toNat with
    | 0 => .df17NoneT19S0 p
    | 1 => .df17VelGsT19S1 p
    | 2 => .df17VelGsT19S2 p
    | 3 => .df17VelHdgT19S3 p
    | 4 => .df17VelHdgT19S4 p
    | 5 => .df17NoneT19S5 p
    | 6 => .df17NoneT19S6 p
    | _ => .df17NoneT19S7 p
  | 20 => .df17NoneT20 p
  | 21 => .df17NoneT21 p
  | 22 => .df17NoneT22 p
  | 23 => .df17NoneT23 p
  | 24 => .df17NoneT24 p
  | 25 => .df17NoneT25 p
  | 26 => .df17NoneT26 p
  | 27 => .df17NoneT27 p
  | 28 => .df17NoneT28 p
  | 29 => .df17NoneT29 p
  | 30 => .df17NoneT30 p
  | _ => .df17NoneT31 p

/-- The extended-squitter classes of format 18, by `metype` and, for `metype` 19, `mesub` (30_encoding.md R97). -/
def classifyEs18 (p : Payload) : Instr :=
  match (metype (frameOf p)).toNat with
  | 0 => .df18NoneT0 p
  | 1 => .df18IdentT1 p
  | 2 => .df18IdentT2 p
  | 3 => .df18IdentT3 p
  | 4 => .df18IdentT4 p
  | 5 => .df18NoneT5 p
  | 6 => .df18NoneT6 p
  | 7 => .df18NoneT7 p
  | 8 => .df18NoneT8 p
  | 9 => .df18AirposT9 p
  | 10 => .df18AirposT10 p
  | 11 => .df18AirposT11 p
  | 12 => .df18AirposT12 p
  | 13 => .df18AirposT13 p
  | 14 => .df18AirposT14 p
  | 15 => .df18AirposT15 p
  | 16 => .df18AirposT16 p
  | 17 => .df18AirposT17 p
  | 18 => .df18AirposT18 p
  | 19 =>
    match (mesub (frameOf p)).toNat with
    | 0 => .df18NoneT19S0 p
    | 1 => .df18VelGsT19S1 p
    | 2 => .df18VelGsT19S2 p
    | 3 => .df18VelHdgT19S3 p
    | 4 => .df18VelHdgT19S4 p
    | 5 => .df18NoneT19S5 p
    | 6 => .df18NoneT19S6 p
    | _ => .df18NoneT19S7 p
  | 20 => .df18NoneT20 p
  | 21 => .df18NoneT21 p
  | 22 => .df18NoneT22 p
  | 23 => .df18NoneT23 p
  | 24 => .df18NoneT24 p
  | 25 => .df18NoneT25 p
  | 26 => .df18NoneT26 p
  | 27 => .df18NoneT27 p
  | 28 => .df18NoneT28 p
  | 29 => .df18NoneT29 p
  | 30 => .df18NoneT30 p
  | _ => .df18NoneT31 p

/-- The class of an accepted payload, by `downlink_format` (30_encoding.md R96); formats 17 and 18 have an extended-squitter
class only when `N >= 11` (R97). -/
def classify (p : Payload) : Instr :=
  match (downlinkFormat (frameOf p)).toNat with
  | 0 => .df0 p
  | 1 => .df1 p
  | 2 => .df2 p
  | 3 => .df3 p
  | 4 => .df4 p
  | 5 => .df5 p
  | 6 => .df6 p
  | 7 => .df7 p
  | 8 => .df8 p
  | 9 => .df9 p
  | 10 => .df10 p
  | 11 => .df11 p
  | 12 => .df12 p
  | 13 => .df13 p
  | 14 => .df14 p
  | 15 => .df15 p
  | 16 => .df16 p
  | 17 => if 11 ≤ p.length then classifyEs17 p else .df17Noes p
  | 18 => if 11 ≤ p.length then classifyEs18 p else .df18Noes p
  | 19 => .df19 p
  | 20 => .df20 p
  | 21 => .df21 p
  | 22 => .df22 p
  | 23 => .df23 p
  | 24 => .df24 p
  | 25 => .df25 p
  | 26 => .df26 p
  | 27 => .df27 p
  | 28 => .df28 p
  | 29 => .df29 p
  | 30 => .df30 p
  | _ => .df31 p

/-- The instruction of a command word: the code by 30_encoding.md R100, a DECODE's line by the validator and the class map. -/
def decode (w : CommandWord) : Instr :=
  if w.code = 0b00 then .nop
  else if w.code = 0b10 then .statsRead
  else if w.code = 0b11 then .statsReset
  else
    match validate w.line with
    | .loaded p => classify p
    | .raised _ => .decode w.line

/-! ## The encoder -/

/-- The line of a payload (30_encoding.md R80): `*`, two digits a byte, `;`. -/
def lineOf (p : Payload) : Line :=
  starChar :: (p.flatMap fun b => [hexDigit (b.extractLsb 7 4), hexDigit (b.extractLsb 3 0)]) ++ [semiChar]

/-- The command word of an instruction (30_encoding.md R80, R100). -/
def encode : Instr → CommandWord
  | .df0 p => ⟨0b01, lineOf p⟩
  | .df1 p => ⟨0b01, lineOf p⟩
  | .df2 p => ⟨0b01, lineOf p⟩
  | .df3 p => ⟨0b01, lineOf p⟩
  | .df4 p => ⟨0b01, lineOf p⟩
  | .df5 p => ⟨0b01, lineOf p⟩
  | .df6 p => ⟨0b01, lineOf p⟩
  | .df7 p => ⟨0b01, lineOf p⟩
  | .df8 p => ⟨0b01, lineOf p⟩
  | .df9 p => ⟨0b01, lineOf p⟩
  | .df10 p => ⟨0b01, lineOf p⟩
  | .df11 p => ⟨0b01, lineOf p⟩
  | .df12 p => ⟨0b01, lineOf p⟩
  | .df13 p => ⟨0b01, lineOf p⟩
  | .df14 p => ⟨0b01, lineOf p⟩
  | .df15 p => ⟨0b01, lineOf p⟩
  | .df16 p => ⟨0b01, lineOf p⟩
  | .df17Noes p => ⟨0b01, lineOf p⟩
  | .df17NoneT0 p => ⟨0b01, lineOf p⟩
  | .df17IdentT1 p => ⟨0b01, lineOf p⟩
  | .df17IdentT2 p => ⟨0b01, lineOf p⟩
  | .df17IdentT3 p => ⟨0b01, lineOf p⟩
  | .df17IdentT4 p => ⟨0b01, lineOf p⟩
  | .df17NoneT5 p => ⟨0b01, lineOf p⟩
  | .df17NoneT6 p => ⟨0b01, lineOf p⟩
  | .df17NoneT7 p => ⟨0b01, lineOf p⟩
  | .df17NoneT8 p => ⟨0b01, lineOf p⟩
  | .df17AirposT9 p => ⟨0b01, lineOf p⟩
  | .df17AirposT10 p => ⟨0b01, lineOf p⟩
  | .df17AirposT11 p => ⟨0b01, lineOf p⟩
  | .df17AirposT12 p => ⟨0b01, lineOf p⟩
  | .df17AirposT13 p => ⟨0b01, lineOf p⟩
  | .df17AirposT14 p => ⟨0b01, lineOf p⟩
  | .df17AirposT15 p => ⟨0b01, lineOf p⟩
  | .df17AirposT16 p => ⟨0b01, lineOf p⟩
  | .df17AirposT17 p => ⟨0b01, lineOf p⟩
  | .df17AirposT18 p => ⟨0b01, lineOf p⟩
  | .df17NoneT19S0 p => ⟨0b01, lineOf p⟩
  | .df17VelGsT19S1 p => ⟨0b01, lineOf p⟩
  | .df17VelGsT19S2 p => ⟨0b01, lineOf p⟩
  | .df17VelHdgT19S3 p => ⟨0b01, lineOf p⟩
  | .df17VelHdgT19S4 p => ⟨0b01, lineOf p⟩
  | .df17NoneT19S5 p => ⟨0b01, lineOf p⟩
  | .df17NoneT19S6 p => ⟨0b01, lineOf p⟩
  | .df17NoneT19S7 p => ⟨0b01, lineOf p⟩
  | .df17NoneT20 p => ⟨0b01, lineOf p⟩
  | .df17NoneT21 p => ⟨0b01, lineOf p⟩
  | .df17NoneT22 p => ⟨0b01, lineOf p⟩
  | .df17NoneT23 p => ⟨0b01, lineOf p⟩
  | .df17NoneT24 p => ⟨0b01, lineOf p⟩
  | .df17NoneT25 p => ⟨0b01, lineOf p⟩
  | .df17NoneT26 p => ⟨0b01, lineOf p⟩
  | .df17NoneT27 p => ⟨0b01, lineOf p⟩
  | .df17NoneT28 p => ⟨0b01, lineOf p⟩
  | .df17NoneT29 p => ⟨0b01, lineOf p⟩
  | .df17NoneT30 p => ⟨0b01, lineOf p⟩
  | .df17NoneT31 p => ⟨0b01, lineOf p⟩
  | .df18Noes p => ⟨0b01, lineOf p⟩
  | .df18NoneT0 p => ⟨0b01, lineOf p⟩
  | .df18IdentT1 p => ⟨0b01, lineOf p⟩
  | .df18IdentT2 p => ⟨0b01, lineOf p⟩
  | .df18IdentT3 p => ⟨0b01, lineOf p⟩
  | .df18IdentT4 p => ⟨0b01, lineOf p⟩
  | .df18NoneT5 p => ⟨0b01, lineOf p⟩
  | .df18NoneT6 p => ⟨0b01, lineOf p⟩
  | .df18NoneT7 p => ⟨0b01, lineOf p⟩
  | .df18NoneT8 p => ⟨0b01, lineOf p⟩
  | .df18AirposT9 p => ⟨0b01, lineOf p⟩
  | .df18AirposT10 p => ⟨0b01, lineOf p⟩
  | .df18AirposT11 p => ⟨0b01, lineOf p⟩
  | .df18AirposT12 p => ⟨0b01, lineOf p⟩
  | .df18AirposT13 p => ⟨0b01, lineOf p⟩
  | .df18AirposT14 p => ⟨0b01, lineOf p⟩
  | .df18AirposT15 p => ⟨0b01, lineOf p⟩
  | .df18AirposT16 p => ⟨0b01, lineOf p⟩
  | .df18AirposT17 p => ⟨0b01, lineOf p⟩
  | .df18AirposT18 p => ⟨0b01, lineOf p⟩
  | .df18NoneT19S0 p => ⟨0b01, lineOf p⟩
  | .df18VelGsT19S1 p => ⟨0b01, lineOf p⟩
  | .df18VelGsT19S2 p => ⟨0b01, lineOf p⟩
  | .df18VelHdgT19S3 p => ⟨0b01, lineOf p⟩
  | .df18VelHdgT19S4 p => ⟨0b01, lineOf p⟩
  | .df18NoneT19S5 p => ⟨0b01, lineOf p⟩
  | .df18NoneT19S6 p => ⟨0b01, lineOf p⟩
  | .df18NoneT19S7 p => ⟨0b01, lineOf p⟩
  | .df18NoneT20 p => ⟨0b01, lineOf p⟩
  | .df18NoneT21 p => ⟨0b01, lineOf p⟩
  | .df18NoneT22 p => ⟨0b01, lineOf p⟩
  | .df18NoneT23 p => ⟨0b01, lineOf p⟩
  | .df18NoneT24 p => ⟨0b01, lineOf p⟩
  | .df18NoneT25 p => ⟨0b01, lineOf p⟩
  | .df18NoneT26 p => ⟨0b01, lineOf p⟩
  | .df18NoneT27 p => ⟨0b01, lineOf p⟩
  | .df18NoneT28 p => ⟨0b01, lineOf p⟩
  | .df18NoneT29 p => ⟨0b01, lineOf p⟩
  | .df18NoneT30 p => ⟨0b01, lineOf p⟩
  | .df18NoneT31 p => ⟨0b01, lineOf p⟩
  | .df19 p => ⟨0b01, lineOf p⟩
  | .df20 p => ⟨0b01, lineOf p⟩
  | .df21 p => ⟨0b01, lineOf p⟩
  | .df22 p => ⟨0b01, lineOf p⟩
  | .df23 p => ⟨0b01, lineOf p⟩
  | .df24 p => ⟨0b01, lineOf p⟩
  | .df25 p => ⟨0b01, lineOf p⟩
  | .df26 p => ⟨0b01, lineOf p⟩
  | .df27 p => ⟨0b01, lineOf p⟩
  | .df28 p => ⟨0b01, lineOf p⟩
  | .df29 p => ⟨0b01, lineOf p⟩
  | .df30 p => ⟨0b01, lineOf p⟩
  | .df31 p => ⟨0b01, lineOf p⟩
  | .nop => ⟨0b00, []⟩
  | .decode line => ⟨0b01, line⟩
  | .statsRead => ⟨0b10, []⟩
  | .statsReset => ⟨0b11, []⟩

/-! ## The words of opcode_table.json -/

/-- The 14 payload bytes whose first `nbits` message bits are the number `w`, message bit 0 its most significant bit, and
whose later bits are zero (30_encoding.md R99: bit 39 of a 40-bit row is message bit 0). -/
def tablePayload (nbits w : Nat) : Payload :=
  (List.range 14).map fun i => BitVec.ofNat 8 ((w <<< (112 - nbits)) >>> (8 * (13 - i)))

/-- The command word of a table word: a 2-bit command row (`nbits` 8 in whole bytes) with the empty line, or DECODE of the
line of a 14-byte frame (log entry 9). -/
def tableCommand (nbits w : Nat) : CommandWord :=
  if nbits ≤ 8 then ⟨BitVec.ofNat 2 w, []⟩ else ⟨0b01, lineOf (tablePayload nbits w)⟩

/-- The instruction the decoder reads from a table word; none for a word longer than the longest frame. -/
def decodeTableWord (nbits w : Nat) : Option Instr :=
  if nbits ≤ 112 then some (decode (tableCommand nbits w)) else none

end Sys2Proof
end

