-- ==== Sys2Proof/Machine/State.lean ====
section
/-! DEFINITION. The machine's state as plain data: the three statistics counters (10_state.md R21 to R25), the frame buffer
and payload length (R28), the response record (R29 to R31), the host's commands not yet taken and the responses already
delivered (44_commands.md R250, R256); the state after reset (R35, R300). -/

namespace Sys2Proof.Machine

/-- `STAT`: the statistics counters (R22, R23, R24), each of `CNT_W` bits. -/
structure Stat (cntW : Nat := Config.cntW) where
  framesSeen    : Counter cntW
  invalidFrames : Counter cntW
  crcFailures   : Counter cntW
deriving DecidableEq, Repr

/-- The unit of an altitude (30_encoding.md R101). -/
inductive AltUnit where
  | feet
  | metres
deriving DecidableEq, Repr

/-- The envelope fields of an `OK` response (R29). -/
structure Envelope where
  rawLen         : BitVec 4
  rawBytes       : FrameBuf
  downlinkFormat : BitVec 5
  bitLength      : BitVec 7
  crcValue       : Crc24
  crcCalc        : Crc24
  crcValid       : Bool
  address        : BitVec 24
deriving DecidableEq, Repr

/-- The FS group (R30). -/
structure FsGroup where
  flightStatus    : BitVec 3
  downlinkRequest : BitVec 5
  utilityMessage  : BitVec 6
deriving DecidableEq, Repr

/-- The AC13 group (R30); the altitude is in feet, -1000 to 50175, and has its own presence (42_dispatch_common.md R165). -/
structure Ac13Group where
  m        : Bool
  q        : Bool
  unit     : AltUnit
  altitude : Option Int
deriving DecidableEq, Repr

/-- The `AIRPOS` fields (R31). -/
structure AirPos where
  oddEvenFlag  : Bool
  utcSyncFlag  : Bool
  ac12Q        : Bool
  ac12Unit     : AltUnit
  ac12Altitude : Option Int
  rawLatitude  : BitVec 17
  rawLongitude : BitVec 17
deriving DecidableEq, Repr

/-- The `VEL_GS` fields (R31). -/
structure VelGs where
  ewDir       : Bool
  ewSpeed     : BitVec 10
  nsDir       : Bool
  nsSpeed     : BitVec 10
  vrSource    : Bool
  vrSign      : Bool
  vrMagnitude : BitVec 9
  groundSpeed : BitVec 11
  heading     : BitVec 9
deriving DecidableEq, Repr

/-- The `VEL_HDG` fields (R31). -/
structure VelHdg where
  headingValid : Bool
  headingRaw   : BitVec 7
  headingX16   : BitVec 13
deriving DecidableEq, Repr

/-- The extended-squitter payload, one variant per `es_class` (R31). -/
inductive EsPayload where
  | none
  | ident  (callsign : Vector Byte 8)
  | airPos (f : AirPos)
  | velGs  (f : VelGs)
  | velHdg (f : VelHdg)
deriving DecidableEq, Repr

/-- The ES group (R30). -/
structure EsGroup where
  metype  : BitVec 5
  mesub   : BitVec 3
  payload : EsPayload
deriving DecidableEq, Repr

/-- The four optional groups; an absent group has no value (00_scope.md R13). -/
structure Groups where
  ca   : Option (BitVec 3)
  fs   : Option FsGroup
  ac13 : Option Ac13Group
  es   : Option EsGroup
deriving DecidableEq, Repr

/-- The response record `RES`. A response whose status is an error holds nothing else (R29); NOP and STATS_RESET answer
with the empty response (R253, R254). -/
inductive Response (cntW : Nat := Config.cntW) where
  | ok (env : Envelope) (groups : Groups)
  | error (e : ValidationError)
  | snapshot (st : Stat cntW)
  | empty
deriving DecidableEq, Repr

/-- What the host does (R20): it issues a command, or causes a reset, with the command that is in progress when the reset
arrives, if any (70_reset_and_hazards.md R300). -/
inductive HostMove where
  | command (w : CommandWord)
  | reset (abandoned : Option CommandWord)
deriving DecidableEq, Repr

/-- The machine's state, for a counter width `CNT_W` (00_scope.md R7; 93_implementation_defined.md U12); `State` alone is the
state at the default width. `moves` and `delivered` are the two sides of the command port: the host's moves not yet taken, in
the order it makes them, and the responses it has been given, oldest first. -/
structure State (cntW : Nat := Config.cntW) where
  stat      : Stat cntW
  buf       : FrameBuf
  n         : BitVec 4
  res       : Option (Response cntW)
  moves     : List HostMove
  delivered : List (Response cntW)
deriving DecidableEq, Repr

/-- The reasons a step can stop with a fault: none. Every line and every command code has a defined outcome
(40_frame_validator.md R129, 30_encoding.md R98), so nobody raises a fault. -/
inductive Fault where
deriving DecidableEq, Repr

/-- The reasons a step can be refused. -/
inductive Refusal where
  /-- Raised by an arm of `exec` whose instruction has no meaning yet; no arm raises it now. Safe: the machine stops. -/
  | notModelled (mnemonic : String)
deriving DecidableEq, Repr

/-- The machine right after reset, at any counter width (10_state.md R35): the counters are 0, no response exists, no command
is in progress. The buffer and `N` are unspecified there and are 0 here (log entry 1); the host has made no move yet. -/
def State.resetOver (cntW : Nat) : State cntW where
  stat := ⟨0, 0, 0⟩
  buf := Vector.replicate 14 0
  n := 0
  res := none
  moves := []
  delivered := []

/-- The machine right after reset, at the default width. -/
def State.reset : State := State.resetOver Config.cntW

end Sys2Proof.Machine
end

