-- ==== Sys2Proof/Machine/Operands.lean ====
section
/-! DEFINITION. Field reads: message bits and message fields, byte slices of the common fields (42_dispatch_common.md), and
the extended-squitter fields with the values derived from them (43_extended_squitter.md). Every operand is a read of the
frame buffer at a fixed position (20_memory.md R57). -/

namespace Sys2Proof.Machine

/-! ## Message bits -/

/-- Message bit `j`: `M(j) = B[j div 8][7 - (j mod 8)]` (00_scope.md R10). -/
def messageBit (B : FrameBuf) (j : Nat) : Bool := (B.byte (j / 8)).getLsbD (7 - j % 8)

/-- The frame as one number of 112 bits, message bit 0 most significant (00_scope.md R10, 20_memory.md R53). -/
def message (B : FrameBuf) : BitVec 112 :=
  B.byte 0 ++ B.byte 1 ++ B.byte 2 ++ B.byte 3 ++ B.byte 4 ++ B.byte 5 ++ B.byte 6
    ++ B.byte 7 ++ B.byte 8 ++ B.byte 9 ++ B.byte 10 ++ B.byte 11 ++ B.byte 12 ++ B.byte 13

/-- The `width` message bits from message bit `lo` on: `M[lo..lo+width-1]` (00_scope.md R10). -/
def messageField (B : FrameBuf) (lo width : Nat) : BitVec width :=
  (message B).extractLsb' (112 - lo - width) width

/-! ## Common fields -/

/-- `address = cat(B[1], B[2], B[3])` (R168). -/
def address (B : FrameBuf) : BitVec 24 := B.byte 1 ++ B.byte 2 ++ B.byte 3

/-- `capability_code = B[0][2:0]` (R162). -/
def capabilityCode (B : FrameBuf) : BitVec 3 := (B.byte 0).extractLsb 2 0

/-- `flight_status = B[0][2:0]` (R163). -/
def flightStatus (B : FrameBuf) : BitVec 3 := (B.byte 0).extractLsb 2 0

/-- `downlink_request = B[1][7:3]` (R164). -/
def downlinkRequest (B : FrameBuf) : BitVec 5 := (B.byte 1).extractLsb 7 3

/-- `utility_message = cat(B[1][2:0], B[2][7:5])` (R164). -/
def utilityMessage (B : FrameBuf) : BitVec 6 := (B.byte 1).extractLsb 2 0 ++ (B.byte 2).extractLsb 7 5

/-- The altitude of an 11-bit value, in feet: `25*n - 1000`, exact (R165, R223). -/
def altitudeFeet (n : BitVec 11) : Int := Config.altStep * n.toNat - Config.altBias

/-- `ac13_m = B[3][6]` (30_encoding.md R88). -/
def ac13M (B : FrameBuf) : Bool := (B.byte 3).getLsbD 6

/-- `ac13_q = B[3][4]` (30_encoding.md R88). -/
def ac13Q (B : FrameBuf) : Bool := (B.byte 3).getLsbD 4

/-- `n = cat(B[2][4:0], B[3][7], B[3][5], B[3][3:0])` (30_encoding.md R88). -/
def ac13N (B : FrameBuf) : BitVec 11 :=
  (B.byte 2).extractLsb 4 0 ++ (B.byte 3).extractLsb 7 7 ++ (B.byte 3).extractLsb 5 5 ++ (B.byte 3).extractLsb 3 0

/-- The fields of the AC13 group (R165). -/
def ac13Fields (B : FrameBuf) : Ac13Group where
  m := ac13M B
  q := ac13Q B
  unit := if ac13M B then .metres else .feet
  altitude := if !ac13M B && ac13Q B then some (altitudeFeet (ac13N B)) else none

/-- The fields of the FS group (R163, R164). -/
def fsFields (B : FrameBuf) : FsGroup where
  flightStatus := flightStatus B
  downlinkRequest := downlinkRequest B
  utilityMessage := utilityMessage B

/-! ## Identification -/

/-- The 6-bit character code `k`: `M[40+6k .. 45+6k]` (R221). -/
def charCode (B : FrameBuf) (k : Nat) : BitVec 6 := messageField B (40 + 6 * k) 6

/-- The callsign over a character set: `callsign[k] = CH[c_k]`, k from 0 to 7 (R221). -/
def callsignOver (charSet : List Byte) (B : FrameBuf) : Vector Byte 8 :=
  Vector.ofFn fun k => charSet.getD (charCode B k.val).toNat 0

/-! ## Airborne position -/

/-- `ac12_q = B[5][0]` (30_encoding.md R92). -/
def ac12Q (B : FrameBuf) : Bool := (B.byte 5).getLsbD 0

/-- `n = cat(B[5][7:1], B[6][7:4])` (30_encoding.md R92). -/
def ac12N (B : FrameBuf) : BitVec 11 := (B.byte 5).extractLsb 7 1 ++ (B.byte 6).extractLsb 7 4

/-- `raw_latitude = cat(B[6][1:0], B[7], B[8][7:1])` (R223; 90_conflicts.md C4). -/
def rawLatitude (B : FrameBuf) : BitVec 17 := (B.byte 6).extractLsb 1 0 ++ B.byte 7 ++ (B.byte 8).extractLsb 7 1

/-- `raw_longitude = cat(B[8][0], B[9], B[10])` (R223). -/
def rawLongitude (B : FrameBuf) : BitVec 17 := (B.byte 8).extractLsb 0 0 ++ B.byte 9 ++ B.byte 10

/-- The `AIRPOS` fields (R223). -/
def airPosFields (B : FrameBuf) : AirPos where
  oddEvenFlag := (B.byte 6).getLsbD 2
  utcSyncFlag := (B.byte 6).getLsbD 3
  ac12Q := ac12Q B
  ac12Unit := .feet
  ac12Altitude := if ac12Q B then some (altitudeFeet (ac12N B)) else none
  rawLatitude := rawLatitude B
  rawLongitude := rawLongitude B

/-! ## Airborne velocity, ground-speed form -/

/-- One step of the binary search for the square root: the bits still to try, and the root so far. -/
def isqrtFrom (v : Nat) : Nat → Nat → Nat
  | 0, q => q
  | b + 1, q => if (q + 2 ^ b) * (q + 2 ^ b) ≤ v then isqrtFrom v b (q + 2 ^ b) else isqrtFrom v b q

/-- `floor(sqrt(v))` for `v < 2^22`: the natural `q` with `q^2 <= v < (q+1)^2` (R225). -/
def isqrt (v : Nat) : Nat := isqrtFrom v 11 0

/-- `ground_speed = floor(sqrt(ns_speed^2 + ew_speed^2))` (R225; decision D17). -/
def groundSpeed (ew ns : BitVec 10) : BitVec 11 := BitVec.ofNat 11 (isqrt (ns.toNat ^ 2 + ew.toNat ^ 2))

/-- A vector in the horizontal plane: its component to the east and its component to the north. -/
structure Vec where
  e : Int
  s : Int
deriving DecidableEq, Repr

/-- A speed with the sign its direction bit gives (R226). -/
def signedSpeed (dirNeg dir : Bool) (speed : BitVec 10) : Int := if dir = dirNeg then -speed.toNat else speed.toNat

/-- The length of the rays of `ray` along the nearer axis, and the scale of `tanTable`. -/
def rayScale : Int := 1000000000000

/-- `tan` of 0 to 45 degrees times `rayScale`, rounded to the nearest integer (DEDUCED, log entry 5): exact at 0 and 45, and
near enough elsewhere that no vector of 10-bit speeds lies between a ray and the true direction. -/
def tanTable : List Int :=
  [0, 17455064928, 34920769492, 52407779283, 69926811944, 87488663526, 105104235266, 122784560903]
  ++ [140540834702, 158384440325, 176326980708, 194380309138, 212556561670, 230868191126, 249328002843, 267949192431]
  ++ [286745385759, 305730681459, 324919696233, 344327613290, 363970234266, 383864035035, 404026225835, 424474816210]
  ++ [445228685309, 466307658155, 487732588566, 509525449494, 531709431661, 554309051453, 577350269190, 600860619028]
  ++ [624869351909, 649407593198, 674508516842, 700207538210, 726542528005, 753554050103, 781285626507, 809784033195]
  ++ [839099631177, 869286737816, 900404044298, 932515086138, 965688774807, 1000000000000]

/-- A vector in the direction of `r` degrees clockwise from north, for `r` from 0 to 90. -/
def quadrantRay (r : Nat) : Vec :=
  if r ≤ 45 then ⟨tanTable.getD r 0, rayScale⟩ else ⟨rayScale, tanTable.getD (90 - r) 0⟩

/-- A vector turned clockwise by `q` right angles: north goes to east, east to south. -/
def turn : Nat → Vec → Vec
  | 0, v => v
  | q + 1, v => turn q ⟨v.s, -v.e⟩

/-- A vector in the direction of `k` degrees clockwise from north (the positive `s` axis of R226). -/
def ray (k : Nat) : Vec := turn (k / 90) (quadrantRay (k % 90))

/-- Positive when `v` lies clockwise of `r` by less than half a turn, zero when it lies along it or against it. -/
def cross (r v : Vec) : Int := v.e * r.s - v.s * r.e

/-- `v` lies in the sector from `k` degrees (inclusive) to `k+1` degrees (exclusive) (R226). -/
def inSector (k : Nat) (v : Vec) : Bool := decide (0 ≤ cross (ray k) v) && decide (cross (ray (k + 1)) v < 0)

/-- The integer `k` in 0 to 359 whose sector holds `v` (R226). -/
def headingDegrees (v : Vec) : Nat := ((List.range 360).find? fun k => inSector k v).getD 0

/-- `heading` of the ground-speed form (R226; decisions D17, D21): 0 at zero speed, else the sector of the signed speeds. -/
def headingOf (dirNeg ewDir : Bool) (ew : BitVec 10) (nsDir : Bool) (ns : BitVec 10) : BitVec 9 :=
  if ew = 0 ∧ ns = 0 then 0
  else BitVec.ofNat 9 (headingDegrees ⟨signedSpeed dirNeg ewDir ew, signedSpeed dirNeg nsDir ns⟩)

/-- The `VEL_GS` fields under a layout and a direction polarity (R224, R225, R226; 00_scope.md R7). -/
def velGsOver (L : VelLayout) (dirNeg : Bool) (B : FrameBuf) : VelGs where
  ewDir := messageBit B L.ewDir
  ewSpeed := messageField B L.ewSpeed 10
  nsDir := messageBit B L.nsDir
  nsSpeed := messageField B L.nsSpeed 10
  vrSource := messageBit B L.vrSource
  vrSign := messageBit B L.vrSign
  vrMagnitude := messageField B L.vrMagnitude 9
  groundSpeed := groundSpeed (messageField B L.ewSpeed 10) (messageField B L.nsSpeed 10)
  heading := headingOf dirNeg (messageBit B L.ewDir) (messageField B L.ewSpeed 10) (messageBit B L.nsDir)
    (messageField B L.nsSpeed 10)

/-! ## Airborne velocity, airspeed/heading form -/

/-- `heading_raw = cat(B[5][1:0], B[6][7:3])` (R227). -/
def headingRaw (B : FrameBuf) : BitVec 7 := (B.byte 5).extractLsb 1 0 ++ (B.byte 6).extractLsb 7 3

/-- The `VEL_HDG` fields; `heading_x16 = 45 * heading_raw` (R227; decision D17). -/
def velHdgFields (B : FrameBuf) : VelHdg where
  headingValid := (B.byte 5).getLsbD 2
  headingRaw := headingRaw B
  headingX16 := BitVec.ofNat 13 (45 * (headingRaw B).toNat)

end Sys2Proof.Machine
end

