-- ==== Sys2Proof/Machine/Crc.lean ====
section
/-! DEFINITION. The CRC Engine (41_crc.md) and the framing it works on (30_encoding.md R82). -/

namespace Sys2Proof.Machine

/-- `bit_length` of a format (R161). -/
def formatBits : FrameFormat → Nat
  | .short56 => 56
  | .long112 => 112

/-- `n = bit_length/8`, the number of framed bytes (R161). -/
def formatBytes : FrameFormat → Nat
  | .short56 => 7
  | .long112 => 14

/-- The table offset: 0 for 112 bits, 56 for 56 bits (R143). -/
def tableOffset : FrameFormat → Nat
  | .short56 => 56
  | .long112 => 0

/-- `T[k]` (00_scope.md R14). -/
def tableEntry (T : List Crc24) (k : Nat) : Crc24 := T.getD k 0

/-- `acc xor T[j + offset]` when message bit `j` is set: one turn of the loop of R144. -/
def crcTurn (T : List Crc24) (offset : Nat) (B : FrameBuf) (acc : Crc24) (j : Nat) : Crc24 :=
  if messageBit B j then acc ^^^ tableEntry T (j + offset) else acc

/-- `crc_calc` over a table: the loop of R144, for j from 0 to `bit_length - 1`, from 0. -/
def crcOver (T : List Crc24) (fmt : FrameFormat) (B : FrameBuf) : Crc24 :=
  (List.range (formatBits fmt)).foldl (crcTurn T (tableOffset fmt) B) 0

/-- `crc_calc` over the default table (R144, R141). -/
def crcCalc (fmt : FrameFormat) (B : FrameBuf) : Crc24 := crcOver Config.crcTable fmt B

/-- `crc_value = cat(B[n-3], B[n-2], B[n-1])` (R145). -/
def crcValue (fmt : FrameFormat) (B : FrameBuf) : Crc24 :=
  B.byte (formatBytes fmt - 3) ++ B.byte (formatBytes fmt - 2) ++ B.byte (formatBytes fmt - 1)

end Sys2Proof.Machine
end

