-- ==== Sys2Proof/Machine/Flags.lean ====
section
/-! DEFINITION. The tests that decide a flag or a presence: the framing, `crc_valid`, the presence of the four groups, the
choice of sub-decoder; and the numeric codes of 30_encoding.md R101. -/

namespace Sys2Proof.Machine

/-- `bit_length = 112` if `downlink_format` is in {16, 17, 19, 20, 21}, else 56 (42_dispatch_common.md R161). -/
def formatOf (df : BitVec 5) : FrameFormat := if df ∈ Config.longDf then .long112 else .short56

/-- `crc_valid = (crc_value == crc_calc)` over a table (41_crc.md R146). -/
def crcValidOver (T : List Crc24) (fmt : FrameFormat) (B : FrameBuf) : Bool := crcValue fmt B == crcOver T fmt B

/-- `crc_valid` over the default table. -/
def crcValid (fmt : FrameFormat) (B : FrameBuf) : Bool := crcValidOver Config.crcTable fmt B

/-- No optional group (00_scope.md R13). -/
def noGroups : Groups := { ca := none, fs := none, ac13 := none, es := none }

/-- The FS group: present when `N >= 3` (R163, R164). -/
def fsGroup (B : FrameBuf) (N : Nat) : Option FsGroup := if N ≥ 3 then some (fsFields B) else none

/-- The AC13 group: present when `N >= 4` (R165). -/
def ac13Group (B : FrameBuf) (N : Nat) : Option Ac13Group := if N ≥ 4 then some (ac13Fields B) else none

/-- The ES group with a given payload (R166). -/
def esWith (payload : EsPayload) (B : FrameBuf) : EsGroup := { metype := metype B, mesub := mesub B, payload := payload }

/-- The sub-decoder dispatch on `metype` and, for `metype` 19, `mesub` (43_extended_squitter.md R220). -/
def esPayload (P : Parameters) (B : FrameBuf) : EsPayload :=
  let t := (metype B).toNat
  let u := (mesub B).toNat
  if 1 ≤ t ∧ t ≤ 4 then .ident (callsignOver P.charSet B)
  else if 9 ≤ t ∧ t ≤ 18 then .airPos (airPosFields B)
  else if t = 19 ∧ (u = 1 ∨ u = 2) then .velGs (velGsOver P.velLayout P.dirNeg B)
  else if t = 19 ∧ (u = 3 ∨ u = 4) then .velHdg (velHdgFields B)
  else .none

/-- The four groups as a function of the true downlink format and the payload length (10_state.md R30; R162, R163, R165,
R167). -/
def groupsOver (P : Parameters) (B : FrameBuf) (N : Nat) : Groups :=
  let df := downlinkFormat B
  { ca := if df ∈ Config.caDf then some (capabilityCode B) else none
    fs := if df ∈ Config.fsDf then fsGroup B N else none
    ac13 := if df ∈ Config.ac13Df then ac13Group B N else none
    es := if df ∈ Config.esDf ∧ N ≥ 11 then some (esWith (esPayload P B) B) else none }

/-- The four groups over the default parameters. -/
def groupsOf (B : FrameBuf) (N : Nat) : Groups := groupsOver Config.parameters B N

/-- `status` (30_encoding.md R101): 0 `OK`, 1 `Invalid`, 2 `TooShort`, 3 `TooLong`; only the response to a DECODE has one. -/
def statusCode : Response → Option (BitVec 2)
  | .ok _ _ => some 0
  | .error .invalid => some 1
  | .error .tooShort => some 2
  | .error .tooLong => some 3
  | .snapshot _ => none
  | .empty => none

/-- `es_class` (30_encoding.md R101). -/
def esClass : EsPayload → BitVec 3
  | .none => 0
  | .ident _ => 1
  | .airPos _ => 2
  | .velGs _ => 3
  | .velHdg _ => 4

/-- `ac13_unit`, `ac12_unit` (30_encoding.md R101). -/
def unitCode : AltUnit → BitVec 1
  | .feet => 0
  | .metres => 1

end Sys2Proof.Machine
end

