-- ==== Sys2Proof/Machine/Ops.lean ====
section
/-! DEFINITION. The shared operations: the counters, the response, the raise of a validation error, the frame load, the
stages after it, taking the host's next move, and the reset event. -/

namespace Sys2Proof.Machine

/-! ## Counters -/

/-- `inc`: one more, staying at `2^w - 1` (10_state.md R25, 00_scope.md R14; decision D10). -/
def satInc {w : Nat} (c : BitVec w) : BitVec w := if c = BitVec.allOnes w then c else c + 1

/-- `inc(STAT.frames_seen)` (R22). -/
def countFrame {w : Nat} (s : State w) : State w :=
  { s with stat := { s.stat with framesSeen := satInc s.stat.framesSeen } }

/-- `inc(STAT.invalid_frames)` (R23). -/
def countInvalid {w : Nat} (s : State w) : State w :=
  { s with stat := { s.stat with invalidFrames := satInc s.stat.invalidFrames } }

/-- `inc(STAT.crc_failures)` (R24). -/
def countCrcFailure {w : Nat} (s : State w) : State w :=
  { s with stat := { s.stat with crcFailures := satInc s.stat.crcFailures } }

/-- The three counters to 0 in one transition (44_commands.md R253). -/
def clearCounters {w : Nat} (s : State w) : State w := { s with stat := ⟨0, 0, 0⟩ }

/-! ## The response -/

/-- The command ends with `r` as its one response, delivered to the host (44_commands.md R250, R256). -/
def respond {w : Nat} (r : Response w) (s : State w) : State w := { s with res := some r, delivered := s.delivered ++ [r] }

/-! ## The errors -/

/-- A raise, the block's trap entry (60_exceptions.md R277): `invalid_frames` is incremented and the command ends with the
error as its status. Nothing is loaded (R276), nothing is saved, and there is no return from it (R278). -/
def raiseError {w : Nat} (e : ValidationError) (s : State w) : State w := respond (.error e) (countInvalid s)

/-! ## A frame -/

/-- The frame load (40_frame_validator.md R126): the buffer and the payload length. -/
def loadFrame {w : Nat} (p : Payload) (s : State w) : State w := { s with buf := frameOf p, n := BitVec.ofNat 4 p.length }

/-- `Envelope()` for a format, from the buffer and the payload length (42_dispatch_common.md R169). -/
def envelope (P : Parameters) (fmt : FrameFormat) (B : FrameBuf) (n : BitVec 4) : Envelope where
  rawLen := n
  rawBytes := B
  downlinkFormat := downlinkFormat B
  bitLength := BitVec.ofNat 7 (formatBits fmt)
  crcValue := crcValue fmt B
  crcCalc := crcOver P.crcTable fmt B
  crcValid := crcValidOver P.crcTable fmt B
  address := address B

/-- The stages after the frame load: the envelope, the counter of a checksum mismatch, the groups, the `OK` response
(R169, R251). -/
def runStages {w : Nat} (P : Parameters) (fmt : FrameFormat) (groups : FrameBuf → Nat → Groups) (s : State w) : State w :=
  respond (.ok (envelope P fmt s.buf s.n) (groups s.buf s.n.toNat))
    (if crcValidOver P.crcTable fmt s.buf then s else countCrcFailure s)

/-- A DECODE whose line carries a frame of payload `p` (R251): counted, loaded, and run through the stages. -/
def acceptFrame {w : Nat} (P : Parameters) (fmt : FrameFormat) (groups : FrameBuf → Nat → Groups) (p : Payload)
    (s : State w) : Host.Outcome (State w) Fault Refusal :=
  .next (runStages P fmt groups (loadFrame p (countFrame s)))

/-! ## The command port -/

/-- What a step finds at the command port. -/
inductive Fetched (cntW : Nat := Config.cntW) where
  | idle
  | resetEvent (s : State cntW)
  | run (i : Instr) (s : State cntW)
deriving DecidableEq, Repr

/-- The state of 10_state.md R35, with what is the host's own kept: its further moves and the responses it has. A command in
progress is abandoned and answers nothing (70_reset_and_hazards.md R300). -/
def afterReset {w : Nat} (s : State w) : State w := { State.resetOver w with moves := s.moves, delivered := s.delivered }

/-- The host's next move is taken: one whole command, or a reset (R60, R303). -/
def fetch {w : Nat} (s : State w) : Fetched w :=
  match s.moves with
  | [] => .idle
  | .reset _ :: rest => .resetEvent (afterReset { s with moves := rest })
  | .command w :: rest => .run (decode w) { s with moves := rest }

/-- The host's next move is the command of a table word. -/
def presentTableWord {cntW : Nat} (s : State cntW) (nbits w : Nat) : State cntW :=
  { s with moves := .command (tableCommand nbits w) :: s.moves }

end Sys2Proof.Machine
end

