-- ==== Sys2Proof/Machine/Commands.lean ====
section
/-! DEFINITION. The host commands (44_commands.md). -/

namespace Sys2Proof.Machine

/-- `NOP` (R254): no state change, empty response. -/
def execNopOver {w : Nat} (s : State w) : Host.Outcome (State w) Fault Refusal := .next (respond .empty s)

/-- `NOP` at the default width. -/
def execNop (s : State) : Host.Outcome State Fault Refusal := execNopOver s

/-- `DECODE` of a line, the whole flow of R251: the frame is counted, the validator runs, an error is raised or the frame is
loaded, and the stages run with the framing and the groups the true downlink format selects. -/
def execDecodeOver {w : Nat} (P : Parameters) (line : Line) (s : State w) : Host.Outcome (State w) Fault Refusal :=
  match validate line with
  | .raised e => .next (raiseError e (countFrame s))
  | .loaded p => acceptFrame P (formatOf (downlinkFormat (frameOf p))) (groupsOver P) p s

/-- `DECODE` over the default parameters. -/
def execDecode (line : Line) (s : State) : Host.Outcome State Fault Refusal := execDecodeOver Config.parameters line s

/-- `STATS_READ` (R252): the three counters of one instant. -/
def execStatsReadOver {w : Nat} (s : State w) : Host.Outcome (State w) Fault Refusal := .next (respond (.snapshot s.stat) s)

/-- `STATS_READ` at the default width. -/
def execStatsRead (s : State) : Host.Outcome State Fault Refusal := execStatsReadOver s

/-- `STATS_RESET` (R253). -/
def execStatsResetOver {w : Nat} (s : State w) : Host.Outcome (State w) Fault Refusal := .next (respond .empty (clearCounters s))

/-- `STATS_RESET` at the default width. -/
def execStatsReset (s : State) : Host.Outcome State Fault Refusal := execStatsResetOver s

end Sys2Proof.Machine
end

