-- ==== Sys2Proof/Machine/LongFrames.lean ====
section
/-! DEFINITION. DECODE of a 112-bit frame of formats 16, 19, 20 and 21 (42_dispatch_common.md R186, R189, R190, R191). -/

namespace Sys2Proof.Machine

/-- `DF16` (R186). -/
def execDf16Over {w : Nat} (P : Parameters) (p : Payload) (s : State w) : Host.Outcome (State w) Fault Refusal :=
  acceptFrame P .long112 (fun B N => { noGroups with ac13 := ac13Group B N }) p s

/-- `DF16` over the default parameters. -/
def execDf16 (p : Payload) (s : State) : Host.Outcome State Fault Refusal :=
  execDf16Over Config.parameters p s

/-- `DF19` (R189). -/
def execDf19Over {w : Nat} (P : Parameters) (p : Payload) (s : State w) : Host.Outcome (State w) Fault Refusal :=
  acceptFrame P .long112 (fun _ _ => noGroups) p s

/-- `DF19` over the default parameters. -/
def execDf19 (p : Payload) (s : State) : Host.Outcome State Fault Refusal :=
  execDf19Over Config.parameters p s

/-- `DF20` (R190). -/
def execDf20Over {w : Nat} (P : Parameters) (p : Payload) (s : State w) : Host.Outcome (State w) Fault Refusal :=
  acceptFrame P .long112 (fun B N => { noGroups with fs := fsGroup B N, ac13 := ac13Group B N }) p s

/-- `DF20` over the default parameters. -/
def execDf20 (p : Payload) (s : State) : Host.Outcome State Fault Refusal :=
  execDf20Over Config.parameters p s

/-- `DF21` (R191). -/
def execDf21Over {w : Nat} (P : Parameters) (p : Payload) (s : State w) : Host.Outcome (State w) Fault Refusal :=
  acceptFrame P .long112 (fun B N => { noGroups with fs := fsGroup B N }) p s

/-- `DF21` over the default parameters. -/
def execDf21 (p : Payload) (s : State) : Host.Outcome State Fault Refusal :=
  execDf21Over Config.parameters p s

end Sys2Proof.Machine
end

