-- ==== Sys2Proof/Machine/ShortFrames.lean ====
section
/-! DEFINITION. DECODE of a 56-bit frame of formats 0 to 15 and 22 to 31 (42_dispatch_common.md R170 to R185, R192 to R201). -/

namespace Sys2Proof.Machine

/-- `DF0` (R170). -/
def execDf0Over {w : Nat} (P : Parameters) (p : Payload) (s : State w) : Host.Outcome (State w) Fault Refusal :=
  acceptFrame P .short56 (fun B N => { noGroups with ac13 := ac13Group B N }) p s

/-- `DF0` over the default parameters. -/
def execDf0 (p : Payload) (s : State) : Host.Outcome State Fault Refusal :=
  execDf0Over Config.parameters p s

/-- `DF1` (R171). -/
def execDf1Over {w : Nat} (P : Parameters) (p : Payload) (s : State w) : Host.Outcome (State w) Fault Refusal :=
  acceptFrame P .short56 (fun _ _ => noGroups) p s

/-- `DF1` over the default parameters. -/
def execDf1 (p : Payload) (s : State) : Host.Outcome State Fault Refusal :=
  execDf1Over Config.parameters p s

/-- `DF2` (R172). -/
def execDf2Over {w : Nat} (P : Parameters) (p : Payload) (s : State w) : Host.Outcome (State w) Fault Refusal :=
  acceptFrame P .short56 (fun _ _ => noGroups) p s

/-- `DF2` over the default parameters. -/
def execDf2 (p : Payload) (s : State) : Host.Outcome State Fault Refusal :=
  execDf2Over Config.parameters p s

/-- `DF3` (R173). -/
def execDf3Over {w : Nat} (P : Parameters) (p : Payload) (s : State w) : Host.Outcome (State w) Fault Refusal :=
  acceptFrame P .short56 (fun _ _ => noGroups) p s

/-- `DF3` over the default parameters. -/
def execDf3 (p : Payload) (s : State) : Host.Outcome State Fault Refusal :=
  execDf3Over Config.parameters p s

/-- `DF4` (R174). -/
def execDf4Over {w : Nat} (P : Parameters) (p : Payload) (s : State w) : Host.Outcome (State w) Fault Refusal :=
  acceptFrame P .short56 (fun B N => { noGroups with fs := fsGroup B N, ac13 := ac13Group B N }) p s

/-- `DF4` over the default parameters. -/
def execDf4 (p : Payload) (s : State) : Host.Outcome State Fault Refusal :=
  execDf4Over Config.parameters p s

/-- `DF5` (R175). -/
def execDf5Over {w : Nat} (P : Parameters) (p : Payload) (s : State w) : Host.Outcome (State w) Fault Refusal :=
  acceptFrame P .short56 (fun B N => { noGroups with fs := fsGroup B N }) p s

/-- `DF5` over the default parameters. -/
def execDf5 (p : Payload) (s : State) : Host.Outcome State Fault Refusal :=
  execDf5Over Config.parameters p s

/-- `DF6` (R176). -/
def execDf6Over {w : Nat} (P : Parameters) (p : Payload) (s : State w) : Host.Outcome (State w) Fault Refusal :=
  acceptFrame P .short56 (fun _ _ => noGroups) p s

/-- `DF6` over the default parameters. -/
def execDf6 (p : Payload) (s : State) : Host.Outcome State Fault Refusal :=
  execDf6Over Config.parameters p s

/-- `DF7` (R177). -/
def execDf7Over {w : Nat} (P : Parameters) (p : Payload) (s : State w) : Host.Outcome (State w) Fault Refusal :=
  acceptFrame P .short56 (fun _ _ => noGroups) p s

/-- `DF7` over the default parameters. -/
def execDf7 (p : Payload) (s : State) : Host.Outcome State Fault Refusal :=
  execDf7Over Config.parameters p s

/-- `DF8` (R178). -/
def execDf8Over {w : Nat} (P : Parameters) (p : Payload) (s : State w) : Host.Outcome (State w) Fault Refusal :=
  acceptFrame P .short56 (fun _ _ => noGroups) p s

/-- `DF8` over the default parameters. -/
def execDf8 (p : Payload) (s : State) : Host.Outcome State Fault Refusal :=
  execDf8Over Config.parameters p s

/-- `DF9` (R179). -/
def execDf9Over {w : Nat} (P : Parameters) (p : Payload) (s : State w) : Host.Outcome (State w) Fault Refusal :=
  acceptFrame P .short56 (fun _ _ => noGroups) p s

/-- `DF9` over the default parameters. -/
def execDf9 (p : Payload) (s : State) : Host.Outcome State Fault Refusal :=
  execDf9Over Config.parameters p s

/-- `DF10` (R180). -/
def execDf10Over {w : Nat} (P : Parameters) (p : Payload) (s : State w) : Host.Outcome (State w) Fault Refusal :=
  acceptFrame P .short56 (fun _ _ => noGroups) p s

/-- `DF10` over the default parameters. -/
def execDf10 (p : Payload) (s : State) : Host.Outcome State Fault Refusal :=
  execDf10Over Config.parameters p s

/-- `DF11` (R181). -/
def execDf11Over {w : Nat} (P : Parameters) (p : Payload) (s : State w) : Host.Outcome (State w) Fault Refusal :=
  acceptFrame P .short56 (fun B _ => { noGroups with ca := some (capabilityCode B) }) p s

/-- `DF11` over the default parameters. -/
def execDf11 (p : Payload) (s : State) : Host.Outcome State Fault Refusal :=
  execDf11Over Config.parameters p s

/-- `DF12` (R182). -/
def execDf12Over {w : Nat} (P : Parameters) (p : Payload) (s : State w) : Host.Outcome (State w) Fault Refusal :=
  acceptFrame P .short56 (fun _ _ => noGroups) p s

/-- `DF12` over the default parameters. -/
def execDf12 (p : Payload) (s : State) : Host.Outcome State Fault Refusal :=
  execDf12Over Config.parameters p s

/-- `DF13` (R183). -/
def execDf13Over {w : Nat} (P : Parameters) (p : Payload) (s : State w) : Host.Outcome (State w) Fault Refusal :=
  acceptFrame P .short56 (fun _ _ => noGroups) p s

/-- `DF13` over the default parameters. -/
def execDf13 (p : Payload) (s : State) : Host.Outcome State Fault Refusal :=
  execDf13Over Config.parameters p s

/-- `DF14` (R184). -/
def execDf14Over {w : Nat} (P : Parameters) (p : Payload) (s : State w) : Host.Outcome (State w) Fault Refusal :=
  acceptFrame P .short56 (fun _ _ => noGroups) p s

/-- `DF14` over the default parameters. -/
def execDf14 (p : Payload) (s : State) : Host.Outcome State Fault Refusal :=
  execDf14Over Config.parameters p s

/-- `DF15` (R185). -/
def execDf15Over {w : Nat} (P : Parameters) (p : Payload) (s : State w) : Host.Outcome (State w) Fault Refusal :=
  acceptFrame P .short56 (fun _ _ => noGroups) p s

/-- `DF15` over the default parameters. -/
def execDf15 (p : Payload) (s : State) : Host.Outcome State Fault Refusal :=
  execDf15Over Config.parameters p s

/-- `DF22` (R192). -/
def execDf22Over {w : Nat} (P : Parameters) (p : Payload) (s : State w) : Host.Outcome (State w) Fault Refusal :=
  acceptFrame P .short56 (fun _ _ => noGroups) p s

/-- `DF22` over the default parameters. -/
def execDf22 (p : Payload) (s : State) : Host.Outcome State Fault Refusal :=
  execDf22Over Config.parameters p s

/-- `DF23` (R193). -/
def execDf23Over {w : Nat} (P : Parameters) (p : Payload) (s : State w) : Host.Outcome (State w) Fault Refusal :=
  acceptFrame P .short56 (fun _ _ => noGroups) p s

/-- `DF23` over the default parameters. -/
def execDf23 (p : Payload) (s : State) : Host.Outcome State Fault Refusal :=
  execDf23Over Config.parameters p s

/-- `DF24` (R194). -/
def execDf24Over {w : Nat} (P : Parameters) (p : Payload) (s : State w) : Host.Outcome (State w) Fault Refusal :=
  acceptFrame P .short56 (fun _ _ => noGroups) p s

/-- `DF24` over the default parameters. -/
def execDf24 (p : Payload) (s : State) : Host.Outcome State Fault Refusal :=
  execDf24Over Config.parameters p s

/-- `DF25` (R195). -/
def execDf25Over {w : Nat} (P : Parameters) (p : Payload) (s : State w) : Host.Outcome (State w) Fault Refusal :=
  acceptFrame P .short56 (fun _ _ => noGroups) p s

/-- `DF25` over the default parameters. -/
def execDf25 (p : Payload) (s : State) : Host.Outcome State Fault Refusal :=
  execDf25Over Config.parameters p s

/-- `DF26` (R196). -/
def execDf26Over {w : Nat} (P : Parameters) (p : Payload) (s : State w) : Host.Outcome (State w) Fault Refusal :=
  acceptFrame P .short56 (fun _ _ => noGroups) p s

/-- `DF26` over the default parameters. -/
def execDf26 (p : Payload) (s : State) : Host.Outcome State Fault Refusal :=
  execDf26Over Config.parameters p s

/-- `DF27` (R197). -/
def execDf27Over {w : Nat} (P : Parameters) (p : Payload) (s : State w) : Host.Outcome (State w) Fault Refusal :=
  acceptFrame P .short56 (fun _ _ => noGroups) p s

/-- `DF27` over the default parameters. -/
def execDf27 (p : Payload) (s : State) : Host.Outcome State Fault Refusal :=
  execDf27Over Config.parameters p s

/-- `DF28` (R198). -/
def execDf28Over {w : Nat} (P : Parameters) (p : Payload) (s : State w) : Host.Outcome (State w) Fault Refusal :=
  acceptFrame P .short56 (fun _ _ => noGroups) p s

/-- `DF28` over the default parameters. -/
def execDf28 (p : Payload) (s : State) : Host.Outcome State Fault Refusal :=
  execDf28Over Config.parameters p s

/-- `DF29` (R199). -/
def execDf29Over {w : Nat} (P : Parameters) (p : Payload) (s : State w) : Host.Outcome (State w) Fault Refusal :=
  acceptFrame P .short56 (fun _ _ => noGroups) p s

/-- `DF29` over the default parameters. -/
def execDf29 (p : Payload) (s : State) : Host.Outcome State Fault Refusal :=
  execDf29Over Config.parameters p s

/-- `DF30` (R200). -/
def execDf30Over {w : Nat} (P : Parameters) (p : Payload) (s : State w) : Host.Outcome (State w) Fault Refusal :=
  acceptFrame P .short56 (fun _ _ => noGroups) p s

/-- `DF30` over the default parameters. -/
def execDf30 (p : Payload) (s : State) : Host.Outcome State Fault Refusal :=
  execDf30Over Config.parameters p s

/-- `DF31` (R201). -/
def execDf31Over {w : Nat} (P : Parameters) (p : Payload) (s : State w) : Host.Outcome (State w) Fault Refusal :=
  acceptFrame P .short56 (fun _ _ => noGroups) p s

/-- `DF31` over the default parameters. -/
def execDf31 (p : Payload) (s : State) : Host.Outcome State Fault Refusal :=
  execDf31Over Config.parameters p s

end Sys2Proof.Machine
end

