-- ==== Sys2Proof/Machine/Squitter17.lean ====
section
/-! DEFINITION. DECODE of a format-17 frame, 112 bits, one meaning per extended-squitter class (42_dispatch_common.md R187,
43_extended_squitter.md R220 to R228). -/

namespace Sys2Proof.Machine

/-- `DF17.NOES` (R187). -/
def execDf17NoesOver {w : Nat} (P : Parameters) (p : Payload) (s : State w) : Host.Outcome (State w) Fault Refusal :=
  acceptFrame P .long112 (fun _ _ => noGroups) p s

/-- `DF17.NOES` over the default parameters. -/
def execDf17Noes (p : Payload) (s : State) : Host.Outcome State Fault Refusal :=
  execDf17NoesOver Config.parameters p s

/-- `DF17.NONE.T0` (R187, R220, R228). -/
def execDf17NoneT0Over {w : Nat} (P : Parameters) (p : Payload) (s : State w) : Host.Outcome (State w) Fault Refusal :=
  acceptFrame P .long112 (fun B _ => { noGroups with es := some (esWith .none B) }) p s

/-- `DF17.NONE.T0` over the default parameters. -/
def execDf17NoneT0 (p : Payload) (s : State) : Host.Outcome State Fault Refusal :=
  execDf17NoneT0Over Config.parameters p s

/-- `DF17.IDENT.T1` (R187, R220, R221, R222). -/
def execDf17IdentT1Over {w : Nat} (P : Parameters) (p : Payload) (s : State w) : Host.Outcome (State w) Fault Refusal :=
  acceptFrame P .long112 (fun B _ => { noGroups with es := some (esWith (.ident (callsignOver P.charSet B)) B) }) p s

/-- `DF17.IDENT.T1` over the default parameters. -/
def execDf17IdentT1 (p : Payload) (s : State) : Host.Outcome State Fault Refusal :=
  execDf17IdentT1Over Config.parameters p s

/-- `DF17.IDENT.T2` (R187, R220, R221, R222). -/
def execDf17IdentT2Over {w : Nat} (P : Parameters) (p : Payload) (s : State w) : Host.Outcome (State w) Fault Refusal :=
  acceptFrame P .long112 (fun B _ => { noGroups with es := some (esWith (.ident (callsignOver P.charSet B)) B) }) p s

/-- `DF17.IDENT.T2` over the default parameters. -/
def execDf17IdentT2 (p : Payload) (s : State) : Host.Outcome State Fault Refusal :=
  execDf17IdentT2Over Config.parameters p s

/-- `DF17.IDENT.T3` (R187, R220, R221, R222). -/
def execDf17IdentT3Over {w : Nat} (P : Parameters) (p : Payload) (s : State w) : Host.Outcome (State w) Fault Refusal :=
  acceptFrame P .long112 (fun B _ => { noGroups with es := some (esWith (.ident (callsignOver P.charSet B)) B) }) p s

/-- `DF17.IDENT.T3` over the default parameters. -/
def execDf17IdentT3 (p : Payload) (s : State) : Host.Outcome State Fault Refusal :=
  execDf17IdentT3Over Config.parameters p s

/-- `DF17.IDENT.T4` (R187, R220, R221, R222). -/
def execDf17IdentT4Over {w : Nat} (P : Parameters) (p : Payload) (s : State w) : Host.Outcome (State w) Fault Refusal :=
  acceptFrame P .long112 (fun B _ => { noGroups with es := some (esWith (.ident (callsignOver P.charSet B)) B) }) p s

/-- `DF17.IDENT.T4` over the default parameters. -/
def execDf17IdentT4 (p : Payload) (s : State) : Host.Outcome State Fault Refusal :=
  execDf17IdentT4Over Config.parameters p s

/-- `DF17.NONE.T5` (R187, R220, R228). -/
def execDf17NoneT5Over {w : Nat} (P : Parameters) (p : Payload) (s : State w) : Host.Outcome (State w) Fault Refusal :=
  acceptFrame P .long112 (fun B _ => { noGroups with es := some (esWith .none B) }) p s

/-- `DF17.NONE.T5` over the default parameters. -/
def execDf17NoneT5 (p : Payload) (s : State) : Host.Outcome State Fault Refusal :=
  execDf17NoneT5Over Config.parameters p s

/-- `DF17.NONE.T6` (R187, R220, R228). -/
def execDf17NoneT6Over {w : Nat} (P : Parameters) (p : Payload) (s : State w) : Host.Outcome (State w) Fault Refusal :=
  acceptFrame P .long112 (fun B _ => { noGroups with es := some (esWith .none B) }) p s

/-- `DF17.NONE.T6` over the default parameters. -/
def execDf17NoneT6 (p : Payload) (s : State) : Host.Outcome State Fault Refusal :=
  execDf17NoneT6Over Config.parameters p s

/-- `DF17.NONE.T7` (R187, R220, R228). -/
def execDf17NoneT7Over {w : Nat} (P : Parameters) (p : Payload) (s : State w) : Host.Outcome (State w) Fault Refusal :=
  acceptFrame P .long112 (fun B _ => { noGroups with es := some (esWith .none B) }) p s

/-- `DF17.NONE.T7` over the default parameters. -/
def execDf17NoneT7 (p : Payload) (s : State) : Host.Outcome State Fault Refusal :=
  execDf17NoneT7Over Config.parameters p s

/-- `DF17.NONE.T8` (R187, R220, R228). -/
def execDf17NoneT8Over {w : Nat} (P : Parameters) (p : Payload) (s : State w) : Host.Outcome (State w) Fault Refusal :=
  acceptFrame P .long112 (fun B _ => { noGroups with es := some (esWith .none B) }) p s

/-- `DF17.NONE.T8` over the default parameters. -/
def execDf17NoneT8 (p : Payload) (s : State) : Host.Outcome State Fault Refusal :=
  execDf17NoneT8Over Config.parameters p s

/-- `DF17.AIRPOS.T9` (R187, R220, R223). -/
def execDf17AirposT9Over {w : Nat} (P : Parameters) (p : Payload) (s : State w) : Host.Outcome (State w) Fault Refusal :=
  acceptFrame P .long112 (fun B _ => { noGroups with es := some (esWith (.airPos (airPosFields B)) B) }) p s

/-- `DF17.AIRPOS.T9` over the default parameters. -/
def execDf17AirposT9 (p : Payload) (s : State) : Host.Outcome State Fault Refusal :=
  execDf17AirposT9Over Config.parameters p s

/-- `DF17.AIRPOS.T10` (R187, R220, R223). -/
def execDf17AirposT10Over {w : Nat} (P : Parameters) (p : Payload) (s : State w) : Host.Outcome (State w) Fault Refusal :=
  acceptFrame P .long112 (fun B _ => { noGroups with es := some (esWith (.airPos (airPosFields B)) B) }) p s

/-- `DF17.AIRPOS.T10` over the default parameters. -/
def execDf17AirposT10 (p : Payload) (s : State) : Host.Outcome State Fault Refusal :=
  execDf17AirposT10Over Config.parameters p s

/-- `DF17.AIRPOS.T11` (R187, R220, R223). -/
def execDf17AirposT11Over {w : Nat} (P : Parameters) (p : Payload) (s : State w) : Host.Outcome (State w) Fault Refusal :=
  acceptFrame P .long112 (fun B _ => { noGroups with es := some (esWith (.airPos (airPosFields B)) B) }) p s

/-- `DF17.AIRPOS.T11` over the default parameters. -/
def execDf17AirposT11 (p : Payload) (s : State) : Host.Outcome State Fault Refusal :=
  execDf17AirposT11Over Config.parameters p s

/-- `DF17.AIRPOS.T12` (R187, R220, R223). -/
def execDf17AirposT12Over {w : Nat} (P : Parameters) (p : Payload) (s : State w) : Host.Outcome (State w) Fault Refusal :=
  acceptFrame P .long112 (fun B _ => { noGroups with es := some (esWith (.airPos (airPosFields B)) B) }) p s

/-- `DF17.AIRPOS.T12` over the default parameters. -/
def execDf17AirposT12 (p : Payload) (s : State) : Host.Outcome State Fault Refusal :=
  execDf17AirposT12Over Config.parameters p s

/-- `DF17.AIRPOS.T13` (R187, R220, R223). -/
def execDf17AirposT13Over {w : Nat} (P : Parameters) (p : Payload) (s : State w) : Host.Outcome (State w) Fault Refusal :=
  acceptFrame P .long112 (fun B _ => { noGroups with es := some (esWith (.airPos (airPosFields B)) B) }) p s

/-- `DF17.AIRPOS.T13` over the default parameters. -/
def execDf17AirposT13 (p : Payload) (s : State) : Host.Outcome State Fault Refusal :=
  execDf17AirposT13Over Config.parameters p s

/-- `DF17.AIRPOS.T14` (R187, R220, R223). -/
def execDf17AirposT14Over {w : Nat} (P : Parameters) (p : Payload) (s : State w) : Host.Outcome (State w) Fault Refusal :=
  acceptFrame P .long112 (fun B _ => { noGroups with es := some (esWith (.airPos (airPosFields B)) B) }) p s

/-- `DF17.AIRPOS.T14` over the default parameters. -/
def execDf17AirposT14 (p : Payload) (s : State) : Host.Outcome State Fault Refusal :=
  execDf17AirposT14Over Config.parameters p s

/-- `DF17.AIRPOS.T15` (R187, R220, R223). -/
def execDf17AirposT15Over {w : Nat} (P : Parameters) (p : Payload) (s : State w) : Host.Outcome (State w) Fault Refusal :=
  acceptFrame P .long112 (fun B _ => { noGroups with es := some (esWith (.airPos (airPosFields B)) B) }) p s

/-- `DF17.AIRPOS.T15` over the default parameters. -/
def execDf17AirposT15 (p : Payload) (s : State) : Host.Outcome State Fault Refusal :=
  execDf17AirposT15Over Config.parameters p s

/-- `DF17.AIRPOS.T16` (R187, R220, R223). -/
def execDf17AirposT16Over {w : Nat} (P : Parameters) (p : Payload) (s : State w) : Host.Outcome (State w) Fault Refusal :=
  acceptFrame P .long112 (fun B _ => { noGroups with es := some (esWith (.airPos (airPosFields B)) B) }) p s

/-- `DF17.AIRPOS.T16` over the default parameters. -/
def execDf17AirposT16 (p : Payload) (s : State) : Host.Outcome State Fault Refusal :=
  execDf17AirposT16Over Config.parameters p s

/-- `DF17.AIRPOS.T17` (R187, R220, R223). -/
def execDf17AirposT17Over {w : Nat} (P : Parameters) (p : Payload) (s : State w) : Host.Outcome (State w) Fault Refusal :=
  acceptFrame P .long112 (fun B _ => { noGroups with es := some (esWith (.airPos (airPosFields B)) B) }) p s

/-- `DF17.AIRPOS.T17` over the default parameters. -/
def execDf17AirposT17 (p : Payload) (s : State) : Host.Outcome State Fault Refusal :=
  execDf17AirposT17Over Config.parameters p s

/-- `DF17.AIRPOS.T18` (R187, R220, R223). -/
def execDf17AirposT18Over {w : Nat} (P : Parameters) (p : Payload) (s : State w) : Host.Outcome (State w) Fault Refusal :=
  acceptFrame P .long112 (fun B _ => { noGroups with es := some (esWith (.airPos (airPosFields B)) B) }) p s

/-- `DF17.AIRPOS.T18` over the default parameters. -/
def execDf17AirposT18 (p : Payload) (s : State) : Host.Outcome State Fault Refusal :=
  execDf17AirposT18Over Config.parameters p s

/-- `DF17.NONE.T19.S0` (R187, R220, R228). -/
def execDf17NoneT19S0Over {w : Nat} (P : Parameters) (p : Payload) (s : State w) : Host.Outcome (State w) Fault Refusal :=
  acceptFrame P .long112 (fun B _ => { noGroups with es := some (esWith .none B) }) p s

/-- `DF17.NONE.T19.S0` over the default parameters. -/
def execDf17NoneT19S0 (p : Payload) (s : State) : Host.Outcome State Fault Refusal :=
  execDf17NoneT19S0Over Config.parameters p s

/-- `DF17.VEL_GS.T19.S1` (R187, R220, R224, R225, R226). -/
def execDf17VelGsT19S1Over {w : Nat} (P : Parameters) (p : Payload) (s : State w) : Host.Outcome (State w) Fault Refusal :=
  acceptFrame P .long112 (fun B _ =>
    { noGroups with es := some (esWith (.velGs (velGsOver P.velLayout P.dirNeg B)) B) }) p s

/-- `DF17.VEL_GS.T19.S1` over the default parameters. -/
def execDf17VelGsT19S1 (p : Payload) (s : State) : Host.Outcome State Fault Refusal :=
  execDf17VelGsT19S1Over Config.parameters p s

/-- `DF17.VEL_GS.T19.S2` (R187, R220, R224, R225, R226). -/
def execDf17VelGsT19S2Over {w : Nat} (P : Parameters) (p : Payload) (s : State w) : Host.Outcome (State w) Fault Refusal :=
  acceptFrame P .long112 (fun B _ =>
    { noGroups with es := some (esWith (.velGs (velGsOver P.velLayout P.dirNeg B)) B) }) p s

/-- `DF17.VEL_GS.T19.S2` over the default parameters. -/
def execDf17VelGsT19S2 (p : Payload) (s : State) : Host.Outcome State Fault Refusal :=
  execDf17VelGsT19S2Over Config.parameters p s

/-- `DF17.VEL_HDG.T19.S3` (R187, R220, R227). -/
def execDf17VelHdgT19S3Over {w : Nat} (P : Parameters) (p : Payload) (s : State w) : Host.Outcome (State w) Fault Refusal :=
  acceptFrame P .long112 (fun B _ => { noGroups with es := some (esWith (.velHdg (velHdgFields B)) B) }) p s

/-- `DF17.VEL_HDG.T19.S3` over the default parameters. -/
def execDf17VelHdgT19S3 (p : Payload) (s : State) : Host.Outcome State Fault Refusal :=
  execDf17VelHdgT19S3Over Config.parameters p s

/-- `DF17.VEL_HDG.T19.S4` (R187, R220, R227). -/
def execDf17VelHdgT19S4Over {w : Nat} (P : Parameters) (p : Payload) (s : State w) : Host.Outcome (State w) Fault Refusal :=
  acceptFrame P .long112 (fun B _ => { noGroups with es := some (esWith (.velHdg (velHdgFields B)) B) }) p s

/-- `DF17.VEL_HDG.T19.S4` over the default parameters. -/
def execDf17VelHdgT19S4 (p : Payload) (s : State) : Host.Outcome State Fault Refusal :=
  execDf17VelHdgT19S4Over Config.parameters p s

/-- `DF17.NONE.T19.S5` (R187, R220, R228). -/
def execDf17NoneT19S5Over {w : Nat} (P : Parameters) (p : Payload) (s : State w) : Host.Outcome (State w) Fault Refusal :=
  acceptFrame P .long112 (fun B _ => { noGroups with es := some (esWith .none B) }) p s

/-- `DF17.NONE.T19.S5` over the default parameters. -/
def execDf17NoneT19S5 (p : Payload) (s : State) : Host.Outcome State Fault Refusal :=
  execDf17NoneT19S5Over Config.parameters p s

/-- `DF17.NONE.T19.S6` (R187, R220, R228). -/
def execDf17NoneT19S6Over {w : Nat} (P : Parameters) (p : Payload) (s : State w) : Host.Outcome (State w) Fault Refusal :=
  acceptFrame P .long112 (fun B _ => { noGroups with es := some (esWith .none B) }) p s

/-- `DF17.NONE.T19.S6` over the default parameters. -/
def execDf17NoneT19S6 (p : Payload) (s : State) : Host.Outcome State Fault Refusal :=
  execDf17NoneT19S6Over Config.parameters p s

/-- `DF17.NONE.T19.S7` (R187, R220, R228). -/
def execDf17NoneT19S7Over {w : Nat} (P : Parameters) (p : Payload) (s : State w) : Host.Outcome (State w) Fault Refusal :=
  acceptFrame P .long112 (fun B _ => { noGroups with es := some (esWith .none B) }) p s

/-- `DF17.NONE.T19.S7` over the default parameters. -/
def execDf17NoneT19S7 (p : Payload) (s : State) : Host.Outcome State Fault Refusal :=
  execDf17NoneT19S7Over Config.parameters p s

/-- `DF17.NONE.T20` (R187, R220, R228). -/
def execDf17NoneT20Over {w : Nat} (P : Parameters) (p : Payload) (s : State w) : Host.Outcome (State w) Fault Refusal :=
  acceptFrame P .long112 (fun B _ => { noGroups with es := some (esWith .none B) }) p s

/-- `DF17.NONE.T20` over the default parameters. -/
def execDf17NoneT20 (p : Payload) (s : State) : Host.Outcome State Fault Refusal :=
  execDf17NoneT20Over Config.parameters p s

/-- `DF17.NONE.T21` (R187, R220, R228). -/
def execDf17NoneT21Over {w : Nat} (P : Parameters) (p : Payload) (s : State w) : Host.Outcome (State w) Fault Refusal :=
  acceptFrame P .long112 (fun B _ => { noGroups with es := some (esWith .none B) }) p s

/-- `DF17.NONE.T21` over the default parameters. -/
def execDf17NoneT21 (p : Payload) (s : State) : Host.Outcome State Fault Refusal :=
  execDf17NoneT21Over Config.parameters p s

/-- `DF17.NONE.T22` (R187, R220, R228). -/
def execDf17NoneT22Over {w : Nat} (P : Parameters) (p : Payload) (s : State w) : Host.Outcome (State w) Fault Refusal :=
  acceptFrame P .long112 (fun B _ => { noGroups with es := some (esWith .none B) }) p s

/-- `DF17.NONE.T22` over the default parameters. -/
def execDf17NoneT22 (p : Payload) (s : State) : Host.Outcome State Fault Refusal :=
  execDf17NoneT22Over Config.parameters p s

/-- `DF17.NONE.T23` (R187, R220, R228). -/
def execDf17NoneT23Over {w : Nat} (P : Parameters) (p : Payload) (s : State w) : Host.Outcome (State w) Fault Refusal :=
  acceptFrame P .long112 (fun B _ => { noGroups with es := some (esWith .none B) }) p s

/-- `DF17.NONE.T23` over the default parameters. -/
def execDf17NoneT23 (p : Payload) (s : State) : Host.Outcome State Fault Refusal :=
  execDf17NoneT23Over Config.parameters p s

/-- `DF17.NONE.T24` (R187, R220, R228). -/
def execDf17NoneT24Over {w : Nat} (P : Parameters) (p : Payload) (s : State w) : Host.Outcome (State w) Fault Refusal :=
  acceptFrame P .long112 (fun B _ => { noGroups with es := some (esWith .none B) }) p s

/-- `DF17.NONE.T24` over the default parameters. -/
def execDf17NoneT24 (p : Payload) (s : State) : Host.Outcome State Fault Refusal :=
  execDf17NoneT24Over Config.parameters p s

/-- `DF17.NONE.T25` (R187, R220, R228). -/
def execDf17NoneT25Over {w : Nat} (P : Parameters) (p : Payload) (s : State w) : Host.Outcome (State w) Fault Refusal :=
  acceptFrame P .long112 (fun B _ => { noGroups with es := some (esWith .none B) }) p s

/-- `DF17.NONE.T25` over the default parameters. -/
def execDf17NoneT25 (p : Payload) (s : State) : Host.Outcome State Fault Refusal :=
  execDf17NoneT25Over Config.parameters p s

/-- `DF17.NONE.T26` (R187, R220, R228). -/
def execDf17NoneT26Over {w : Nat} (P : Parameters) (p : Payload) (s : State w) : Host.Outcome (State w) Fault Refusal :=
  acceptFrame P .long112 (fun B _ => { noGroups with es := some (esWith .none B) }) p s

/-- `DF17.NONE.T26` over the default parameters. -/
def execDf17NoneT26 (p : Payload) (s : State) : Host.Outcome State Fault Refusal :=
  execDf17NoneT26Over Config.parameters p s

/-- `DF17.NONE.T27` (R187, R220, R228). -/
def execDf17NoneT27Over {w : Nat} (P : Parameters) (p : Payload) (s : State w) : Host.Outcome (State w) Fault Refusal :=
  acceptFrame P .long112 (fun B _ => { noGroups with es := some (esWith .none B) }) p s

/-- `DF17.NONE.T27` over the default parameters. -/
def execDf17NoneT27 (p : Payload) (s : State) : Host.Outcome State Fault Refusal :=
  execDf17NoneT27Over Config.parameters p s

/-- `DF17.NONE.T28` (R187, R220, R228). -/
def execDf17NoneT28Over {w : Nat} (P : Parameters) (p : Payload) (s : State w) : Host.Outcome (State w) Fault Refusal :=
  acceptFrame P .long112 (fun B _ => { noGroups with es := some (esWith .none B) }) p s

/-- `DF17.NONE.T28` over the default parameters. -/
def execDf17NoneT28 (p : Payload) (s : State) : Host.Outcome State Fault Refusal :=
  execDf17NoneT28Over Config.parameters p s

/-- `DF17.NONE.T29` (R187, R220, R228). -/
def execDf17NoneT29Over {w : Nat} (P : Parameters) (p : Payload) (s : State w) : Host.Outcome (State w) Fault Refusal :=
  acceptFrame P .long112 (fun B _ => { noGroups with es := some (esWith .none B) }) p s

/-- `DF17.NONE.T29` over the default parameters. -/
def execDf17NoneT29 (p : Payload) (s : State) : Host.Outcome State Fault Refusal :=
  execDf17NoneT29Over Config.parameters p s

/-- `DF17.NONE.T30` (R187, R220, R228). -/
def execDf17NoneT30Over {w : Nat} (P : Parameters) (p : Payload) (s : State w) : Host.Outcome (State w) Fault Refusal :=
  acceptFrame P .long112 (fun B _ => { noGroups with es := some (esWith .none B) }) p s

/-- `DF17.NONE.T30` over the default parameters. -/
def execDf17NoneT30 (p : Payload) (s : State) : Host.Outcome State Fault Refusal :=
  execDf17NoneT30Over Config.parameters p s

/-- `DF17.NONE.T31` (R187, R220, R228). -/
def execDf17NoneT31Over {w : Nat} (P : Parameters) (p : Payload) (s : State w) : Host.Outcome (State w) Fault Refusal :=
  acceptFrame P .long112 (fun B _ => { noGroups with es := some (esWith .none B) }) p s

/-- `DF17.NONE.T31` over the default parameters. -/
def execDf17NoneT31 (p : Payload) (s : State) : Host.Outcome State Fault Refusal :=
  execDf17NoneT31Over Config.parameters p s

end Sys2Proof.Machine
end

