-- ==== Sys2Proof/Machine/Squitter18.lean ====
section
/-! DEFINITION. DECODE of a format-18 frame: framed and checked as 56 bits, its extended-squitter fields read from payload bytes 4
to 10 (42_dispatch_common.md R188; 90_conflicts.md C9, decision D23). -/

namespace Sys2Proof.Machine

/-- `DF18.NOES` (R188). -/
def execDf18NoesOver {w : Nat} (P : Parameters) (p : Payload) (s : State w) : Host.Outcome (State w) Fault Refusal :=
  acceptFrame P .short56 (fun _ _ => noGroups) p s

/-- `DF18.NOES` over the default parameters. -/
def execDf18Noes (p : Payload) (s : State) : Host.Outcome State Fault Refusal :=
  execDf18NoesOver Config.parameters p s

/-- `DF18.NONE.T0` (R188, R220, R228). -/
def execDf18NoneT0Over {w : Nat} (P : Parameters) (p : Payload) (s : State w) : Host.Outcome (State w) Fault Refusal :=
  acceptFrame P .short56 (fun B _ => { noGroups with es := some (esWith .none B) }) p s

/-- `DF18.NONE.T0` over the default parameters. -/
def execDf18NoneT0 (p : Payload) (s : State) : Host.Outcome State Fault Refusal :=
  execDf18NoneT0Over Config.parameters p s

/-- `DF18.IDENT.T1` (R188, R220, R221, R222). -/
def execDf18IdentT1Over {w : Nat} (P : Parameters) (p : Payload) (s : State w) : Host.Outcome (State w) Fault Refusal :=
  acceptFrame P .short56 (fun B _ => { noGroups with es := some (esWith (.ident (callsignOver P.charSet B)) B) }) p s

/-- `DF18.IDENT.T1` over the default parameters. -/
def execDf18IdentT1 (p : Payload) (s : State) : Host.Outcome State Fault Refusal :=
  execDf18IdentT1Over Config.parameters p s

/-- `DF18.IDENT.T2` (R188, R220, R221, R222). -/
def execDf18IdentT2Over {w : Nat} (P : Parameters) (p : Payload) (s : State w) : Host.Outcome (State w) Fault Refusal :=
  acceptFrame P .short56 (fun B _ => { noGroups with es := some (esWith (.ident (callsignOver P.charSet B)) B) }) p s

/-- `DF18.IDENT.T2` over the default parameters. -/
def execDf18IdentT2 (p : Payload) (s : State) : Host.Outcome State Fault Refusal :=
  execDf18IdentT2Over Config.parameters p s

/-- `DF18.IDENT.T3` (R188, R220, R221, R222). -/
def execDf18IdentT3Over {w : Nat} (P : Parameters) (p : Payload) (s : State w) : Host.Outcome (State w) Fault Refusal :=
  acceptFrame P .short56 (fun B _ => { noGroups with es := some (esWith (.ident (callsignOver P.charSet B)) B) }) p s

/-- `DF18.IDENT.T3` over the default parameters. -/
def execDf18IdentT3 (p : Payload) (s : State) : Host.Outcome State Fault Refusal :=
  execDf18IdentT3Over Config.parameters p s

/-- `DF18.IDENT.T4` (R188, R220, R221, R222). -/
def execDf18IdentT4Over {w : Nat} (P : Parameters) (p : Payload) (s : State w) : Host.Outcome (State w) Fault Refusal :=
  acceptFrame P .short56 (fun B _ => { noGroups with es := some (esWith (.ident (callsignOver P.charSet B)) B) }) p s

/-- `DF18.IDENT.T4` over the default parameters. -/
def execDf18IdentT4 (p : Payload) (s : State) : Host.Outcome State Fault Refusal :=
  execDf18IdentT4Over Config.parameters p s

/-- `DF18.NONE.T5` (R188, R220, R228). -/
def execDf18NoneT5Over {w : Nat} (P : Parameters) (p : Payload) (s : State w) : Host.Outcome (State w) Fault Refusal :=
  acceptFrame P .short56 (fun B _ => { noGroups with es := some (esWith .none B) }) p s

/-- `DF18.NONE.T5` over the default parameters. -/
def execDf18NoneT5 (p : Payload) (s : State) : Host.Outcome State Fault Refusal :=
  execDf18NoneT5Over Config.parameters p s

/-- `DF18.NONE.T6` (R188, R220, R228). -/
def execDf18NoneT6Over {w : Nat} (P : Parameters) (p : Payload) (s : State w) : Host.Outcome (State w) Fault Refusal :=
  acceptFrame P .short56 (fun B _ => { noGroups with es := some (esWith .none B) }) p s

/-- `DF18.NONE.T6` over the default parameters. -/
def execDf18NoneT6 (p : Payload) (s : State) : Host.Outcome State Fault Refusal :=
  execDf18NoneT6Over Config.parameters p s

/-- `DF18.NONE.T7` (R188, R220, R228). -/
def execDf18NoneT7Over {w : Nat} (P : Parameters) (p : Payload) (s : State w) : Host.Outcome (State w) Fault Refusal :=
  acceptFrame P .short56 (fun B _ => { noGroups with es := some (esWith .none B) }) p s

/-- `DF18.NONE.T7` over the default parameters. -/
def execDf18NoneT7 (p : Payload) (s : State) : Host.Outcome State Fault Refusal :=
  execDf18NoneT7Over Config.parameters p s

/-- `DF18.NONE.T8` (R188, R220, R228). -/
def execDf18NoneT8Over {w : Nat} (P : Parameters) (p : Payload) (s : State w) : Host.Outcome (State w) Fault Refusal :=
  acceptFrame P .short56 (fun B _ => { noGroups with es := some (esWith .none B) }) p s

/-- `DF18.NONE.T8` over the default parameters. -/
def execDf18NoneT8 (p : Payload) (s : State) : Host.Outcome State Fault Refusal :=
  execDf18NoneT8Over Config.parameters p s

/-- `DF18.AIRPOS.T9` (R188, R220, R223). -/
def execDf18AirposT9Over {w : Nat} (P : Parameters) (p : Payload) (s : State w) : Host.Outcome (State w) Fault Refusal :=
  acceptFrame P .short56 (fun B _ => { noGroups with es := some (esWith (.airPos (airPosFields B)) B) }) p s

/-- `DF18.AIRPOS.T9` over the default parameters. -/
def execDf18AirposT9 (p : Payload) (s : State) : Host.Outcome State Fault Refusal :=
  execDf18AirposT9Over Config.parameters p s

/-- `DF18.AIRPOS.T10` (R188, R220, R223). -/
def execDf18AirposT10Over {w : Nat} (P : Parameters) (p : Payload) (s : State w) : Host.Outcome (State w) Fault Refusal :=
  acceptFrame P .short56 (fun B _ => { noGroups with es := some (esWith (.airPos (airPosFields B)) B) }) p s

/-- `DF18.AIRPOS.T10` over the default parameters. -/
def execDf18AirposT10 (p : Payload) (s : State) : Host.Outcome State Fault Refusal :=
  execDf18AirposT10Over Config.parameters p s

/-- `DF18.AIRPOS.T11` (R188, R220, R223). -/
def execDf18AirposT11Over {w : Nat} (P : Parameters) (p : Payload) (s : State w) : Host.Outcome (State w) Fault Refusal :=
  acceptFrame P .short56 (fun B _ => { noGroups with es := some (esWith (.airPos (airPosFields B)) B) }) p s

/-- `DF18.AIRPOS.T11` over the default parameters. -/
def execDf18AirposT11 (p : Payload) (s : State) : Host.Outcome State Fault Refusal :=
  execDf18AirposT11Over Config.parameters p s

/-- `DF18.AIRPOS.T12` (R188, R220, R223). -/
def execDf18AirposT12Over {w : Nat} (P : Parameters) (p : Payload) (s : State w) : Host.Outcome (State w) Fault Refusal :=
  acceptFrame P .short56 (fun B _ => { noGroups with es := some (esWith (.airPos (airPosFields B)) B) }) p s

/-- `DF18.AIRPOS.T12` over the default parameters. -/
def execDf18AirposT12 (p : Payload) (s : State) : Host.Outcome State Fault Refusal :=
  execDf18AirposT12Over Config.parameters p s

/-- `DF18.AIRPOS.T13` (R188, R220, R223). -/
def execDf18AirposT13Over {w : Nat} (P : Parameters) (p : Payload) (s : State w) : Host.Outcome (State w) Fault Refusal :=
  acceptFrame P .short56 (fun B _ => { noGroups with es := some (esWith (.airPos (airPosFields B)) B) }) p s

/-- `DF18.AIRPOS.T13` over the default parameters. -/
def execDf18AirposT13 (p : Payload) (s : State) : Host.Outcome State Fault Refusal :=
  execDf18AirposT13Over Config.parameters p s

/-- `DF18.AIRPOS.T14` (R188, R220, R223). -/
def execDf18AirposT14Over {w : Nat} (P : Parameters) (p : Payload) (s : State w) : Host.Outcome (State w) Fault Refusal :=
  acceptFrame P .short56 (fun B _ => { noGroups with es := some (esWith (.airPos (airPosFields B)) B) }) p s

/-- `DF18.AIRPOS.T14` over the default parameters. -/
def execDf18AirposT14 (p : Payload) (s : State) : Host.Outcome State Fault Refusal :=
  execDf18AirposT14Over Config.parameters p s

/-- `DF18.AIRPOS.T15` (R188, R220, R223). -/
def execDf18AirposT15Over {w : Nat} (P : Parameters) (p : Payload) (s : State w) : Host.Outcome (State w) Fault Refusal :=
  acceptFrame P .short56 (fun B _ => { noGroups with es := some (esWith (.airPos (airPosFields B)) B) }) p s

/-- `DF18.AIRPOS.T15` over the default parameters. -/
def execDf18AirposT15 (p : Payload) (s : State) : Host.Outcome State Fault Refusal :=
  execDf18AirposT15Over Config.parameters p s

/-- `DF18.AIRPOS.T16` (R188, R220, R223). -/
def execDf18AirposT16Over {w : Nat} (P : Parameters) (p : Payload) (s : State w) : Host.Outcome (State w) Fault Refusal :=
  acceptFrame P .short56 (fun B _ => { noGroups with es := some (esWith (.airPos (airPosFields B)) B) }) p s

/-- `DF18.AIRPOS.T16` over the default parameters. -/
def execDf18AirposT16 (p : Payload) (s : State) : Host.Outcome State Fault Refusal :=
  execDf18AirposT16Over Config.parameters p s

/-- `DF18.AIRPOS.T17` (R188, R220, R223). -/
def execDf18AirposT17Over {w : Nat} (P : Parameters) (p : Payload) (s : State w) : Host.Outcome (State w) Fault Refusal :=
  acceptFrame P .short56 (fun B _ => { noGroups with es := some (esWith (.airPos (airPosFields B)) B) }) p s

/-- `DF18.AIRPOS.T17` over the default parameters. -/
def execDf18AirposT17 (p : Payload) (s : State) : Host.Outcome State Fault Refusal :=
  execDf18AirposT17Over Config.parameters p s

/-- `DF18.AIRPOS.T18` (R188, R220, R223). -/
def execDf18AirposT18Over {w : Nat} (P : Parameters) (p : Payload) (s : State w) : Host.Outcome (State w) Fault Refusal :=
  acceptFrame P .short56 (fun B _ => { noGroups with es := some (esWith (.airPos (airPosFields B)) B) }) p s

/-- `DF18.AIRPOS.T18` over the default parameters. -/
def execDf18AirposT18 (p : Payload) (s : State) : Host.Outcome State Fault Refusal :=
  execDf18AirposT18Over Config.parameters p s

/-- `DF18.NONE.T19.S0` (R188, R220, R228). -/
def execDf18NoneT19S0Over {w : Nat} (P : Parameters) (p : Payload) (s : State w) : Host.Outcome (State w) Fault Refusal :=
  acceptFrame P .short56 (fun B _ => { noGroups with es := some (esWith .none B) }) p s

/-- `DF18.NONE.T19.S0` over the default parameters. -/
def execDf18NoneT19S0 (p : Payload) (s : State) : Host.Outcome State Fault Refusal :=
  execDf18NoneT19S0Over Config.parameters p s

/-- `DF18.VEL_GS.T19.S1` (R188, R220, R224, R225, R226). -/
def execDf18VelGsT19S1Over {w : Nat} (P : Parameters) (p : Payload) (s : State w) : Host.Outcome (State w) Fault Refusal :=
  acceptFrame P .short56 (fun B _ =>
    { noGroups with es := some (esWith (.velGs (velGsOver P.velLayout P.dirNeg B)) B) }) p s

/-- `DF18.VEL_GS.T19.S1` over the default parameters. -/
def execDf18VelGsT19S1 (p : Payload) (s : State) : Host.Outcome State Fault Refusal :=
  execDf18VelGsT19S1Over Config.parameters p s

/-- `DF18.VEL_GS.T19.S2` (R188, R220, R224, R225, R226). -/
def execDf18VelGsT19S2Over {w : Nat} (P : Parameters) (p : Payload) (s : State w) : Host.Outcome (State w) Fault Refusal :=
  acceptFrame P .short56 (fun B _ =>
    { noGroups with es := some (esWith (.velGs (velGsOver P.velLayout P.dirNeg B)) B) }) p s

/-- `DF18.VEL_GS.T19.S2` over the default parameters. -/
def execDf18VelGsT19S2 (p : Payload) (s : State) : Host.Outcome State Fault Refusal :=
  execDf18VelGsT19S2Over Config.parameters p s

/-- `DF18.VEL_HDG.T19.S3` (R188, R220, R227). -/
def execDf18VelHdgT19S3Over {w : Nat} (P : Parameters) (p : Payload) (s : State w) : Host.Outcome (State w) Fault Refusal :=
  acceptFrame P .short56 (fun B _ => { noGroups with es := some (esWith (.velHdg (velHdgFields B)) B) }) p s

/-- `DF18.VEL_HDG.T19.S3` over the default parameters. -/
def execDf18VelHdgT19S3 (p : Payload) (s : State) : Host.Outcome State Fault Refusal :=
  execDf18VelHdgT19S3Over Config.parameters p s

/-- `DF18.VEL_HDG.T19.S4` (R188, R220, R227). -/
def execDf18VelHdgT19S4Over {w : Nat} (P : Parameters) (p : Payload) (s : State w) : Host.Outcome (State w) Fault Refusal :=
  acceptFrame P .short56 (fun B _ => { noGroups with es := some (esWith (.velHdg (velHdgFields B)) B) }) p s

/-- `DF18.VEL_HDG.T19.S4` over the default parameters. -/
def execDf18VelHdgT19S4 (p : Payload) (s : State) : Host.Outcome State Fault Refusal :=
  execDf18VelHdgT19S4Over Config.parameters p s

/-- `DF18.NONE.T19.S5` (R188, R220, R228). -/
def execDf18NoneT19S5Over {w : Nat} (P : Parameters) (p : Payload) (s : State w) : Host.Outcome (State w) Fault Refusal :=
  acceptFrame P .short56 (fun B _ => { noGroups with es := some (esWith .none B) }) p s

/-- `DF18.NONE.T19.S5` over the default parameters. -/
def execDf18NoneT19S5 (p : Payload) (s : State) : Host.Outcome State Fault Refusal :=
  execDf18NoneT19S5Over Config.parameters p s

/-- `DF18.NONE.T19.S6` (R188, R220, R228). -/
def execDf18NoneT19S6Over {w : Nat} (P : Parameters) (p : Payload) (s : State w) : Host.Outcome (State w) Fault Refusal :=
  acceptFrame P .short56 (fun B _ => { noGroups with es := some (esWith .none B) }) p s

/-- `DF18.NONE.T19.S6` over the default parameters. -/
def execDf18NoneT19S6 (p : Payload) (s : State) : Host.Outcome State Fault Refusal :=
  execDf18NoneT19S6Over Config.parameters p s

/-- `DF18.NONE.T19.S7` (R188, R220, R228). -/
def execDf18NoneT19S7Over {w : Nat} (P : Parameters) (p : Payload) (s : State w) : Host.Outcome (State w) Fault Refusal :=
  acceptFrame P .short56 (fun B _ => { noGroups with es := some (esWith .none B) }) p s

/-- `DF18.NONE.T19.S7` over the default parameters. -/
def execDf18NoneT19S7 (p : Payload) (s : State) : Host.Outcome State Fault Refusal :=
  execDf18NoneT19S7Over Config.parameters p s

/-- `DF18.NONE.T20` (R188, R220, R228). -/
def execDf18NoneT20Over {w : Nat} (P : Parameters) (p : Payload) (s : State w) : Host.Outcome (State w) Fault Refusal :=
  acceptFrame P .short56 (fun B _ => { noGroups with es := some (esWith .none B) }) p s

/-- `DF18.NONE.T20` over the default parameters. -/
def execDf18NoneT20 (p : Payload) (s : State) : Host.Outcome State Fault Refusal :=
  execDf18NoneT20Over Config.parameters p s

/-- `DF18.NONE.T21` (R188, R220, R228). -/
def execDf18NoneT21Over {w : Nat} (P : Parameters) (p : Payload) (s : State w) : Host.Outcome (State w) Fault Refusal :=
  acceptFrame P .short56 (fun B _ => { noGroups with es := some (esWith .none B) }) p s

/-- `DF18.NONE.T21` over the default parameters. -/
def execDf18NoneT21 (p : Payload) (s : State) : Host.Outcome State Fault Refusal :=
  execDf18NoneT21Over Config.parameters p s

/-- `DF18.NONE.T22` (R188, R220, R228). -/
def execDf18NoneT22Over {w : Nat} (P : Parameters) (p : Payload) (s : State w) : Host.Outcome (State w) Fault Refusal :=
  acceptFrame P .short56 (fun B _ => { noGroups with es := some (esWith .none B) }) p s

/-- `DF18.NONE.T22` over the default parameters. -/
def execDf18NoneT22 (p : Payload) (s : State) : Host.Outcome State Fault Refusal :=
  execDf18NoneT22Over Config.parameters p s

/-- `DF18.NONE.T23` (R188, R220, R228). -/
def execDf18NoneT23Over {w : Nat} (P : Parameters) (p : Payload) (s : State w) : Host.Outcome (State w) Fault Refusal :=
  acceptFrame P .short56 (fun B _ => { noGroups with es := some (esWith .none B) }) p s

/-- `DF18.NONE.T23` over the default parameters. -/
def execDf18NoneT23 (p : Payload) (s : State) : Host.Outcome State Fault Refusal :=
  execDf18NoneT23Over Config.parameters p s

/-- `DF18.NONE.T24` (R188, R220, R228). -/
def execDf18NoneT24Over {w : Nat} (P : Parameters) (p : Payload) (s : State w) : Host.Outcome (State w) Fault Refusal :=
  acceptFrame P .short56 (fun B _ => { noGroups with es := some (esWith .none B) }) p s

/-- `DF18.NONE.T24` over the default parameters. -/
def execDf18NoneT24 (p : Payload) (s : State) : Host.Outcome State Fault Refusal :=
  execDf18NoneT24Over Config.parameters p s

/-- `DF18.NONE.T25` (R188, R220, R228). -/
def execDf18NoneT25Over {w : Nat} (P : Parameters) (p : Payload) (s : State w) : Host.Outcome (State w) Fault Refusal :=
  acceptFrame P .short56 (fun B _ => { noGroups with es := some (esWith .none B) }) p s

/-- `DF18.NONE.T25` over the default parameters. -/
def execDf18NoneT25 (p : Payload) (s : State) : Host.Outcome State Fault Refusal :=
  execDf18NoneT25Over Config.parameters p s

/-- `DF18.NONE.T26` (R188, R220, R228). -/
def execDf18NoneT26Over {w : Nat} (P : Parameters) (p : Payload) (s : State w) : Host.Outcome (State w) Fault Refusal :=
  acceptFrame P .short56 (fun B _ => { noGroups with es := some (esWith .none B) }) p s

/-- `DF18.NONE.T26` over the default parameters. -/
def execDf18NoneT26 (p : Payload) (s : State) : Host.Outcome State Fault Refusal :=
  execDf18NoneT26Over Config.parameters p s

/-- `DF18.NONE.T27` (R188, R220, R228). -/
def execDf18NoneT27Over {w : Nat} (P : Parameters) (p : Payload) (s : State w) : Host.Outcome (State w) Fault Refusal :=
  acceptFrame P .short56 (fun B _ => { noGroups with es := some (esWith .none B) }) p s

/-- `DF18.NONE.T27` over the default parameters. -/
def execDf18NoneT27 (p : Payload) (s : State) : Host.Outcome State Fault Refusal :=
  execDf18NoneT27Over Config.parameters p s

/-- `DF18.NONE.T28` (R188, R220, R228). -/
def execDf18NoneT28Over {w : Nat} (P : Parameters) (p : Payload) (s : State w) : Host.Outcome (State w) Fault Refusal :=
  acceptFrame P .short56 (fun B _ => { noGroups with es := some (esWith .none B) }) p s

/-- `DF18.NONE.T28` over the default parameters. -/
def execDf18NoneT28 (p : Payload) (s : State) : Host.Outcome State Fault Refusal :=
  execDf18NoneT28Over Config.parameters p s

/-- `DF18.NONE.T29` (R188, R220, R228). -/
def execDf18NoneT29Over {w : Nat} (P : Parameters) (p : Payload) (s : State w) : Host.Outcome (State w) Fault Refusal :=
  acceptFrame P .short56 (fun B _ => { noGroups with es := some (esWith .none B) }) p s

/-- `DF18.NONE.T29` over the default parameters. -/
def execDf18NoneT29 (p : Payload) (s : State) : Host.Outcome State Fault Refusal :=
  execDf18NoneT29Over Config.parameters p s

/-- `DF18.NONE.T30` (R188, R220, R228). -/
def execDf18NoneT30Over {w : Nat} (P : Parameters) (p : Payload) (s : State w) : Host.Outcome (State w) Fault Refusal :=
  acceptFrame P .short56 (fun B _ => { noGroups with es := some (esWith .none B) }) p s

/-- `DF18.NONE.T30` over the default parameters. -/
def execDf18NoneT30 (p : Payload) (s : State) : Host.Outcome State Fault Refusal :=
  execDf18NoneT30Over Config.parameters p s

/-- `DF18.NONE.T31` (R188, R220, R228). -/
def execDf18NoneT31Over {w : Nat} (P : Parameters) (p : Payload) (s : State w) : Host.Outcome (State w) Fault Refusal :=
  acceptFrame P .short56 (fun B _ => { noGroups with es := some (esWith .none B) }) p s

/-- `DF18.NONE.T31` over the default parameters. -/
def execDf18NoneT31 (p : Payload) (s : State) : Host.Outcome State Fault Refusal :=
  execDf18NoneT31Over Config.parameters p s

end Sys2Proof.Machine
end

