-- ==== Sys2Proof/Machine/Dispatch.lean ====
section
/-! DEFINITION. One arm per constructor of Instr. -/

namespace Sys2Proof.Machine

def exec (i : Instr) (s : State) : Host.Outcome State Fault Refusal :=
  match i with
  | .df0 p => Sys2Proof.Machine.execDf0 p s
  | .df1 p => Sys2Proof.Machine.execDf1 p s
  | .df2 p => Sys2Proof.Machine.execDf2 p s
  | .df3 p => Sys2Proof.Machine.execDf3 p s
  | .df4 p => Sys2Proof.Machine.execDf4 p s
  | .df5 p => Sys2Proof.Machine.execDf5 p s
  | .df6 p => Sys2Proof.Machine.execDf6 p s
  | .df7 p => Sys2Proof.Machine.execDf7 p s
  | .df8 p => Sys2Proof.Machine.execDf8 p s
  | .df9 p => Sys2Proof.Machine.execDf9 p s
  | .df10 p => Sys2Proof.Machine.execDf10 p s
  | .df11 p => Sys2Proof.Machine.execDf11 p s
  | .df12 p => Sys2Proof.Machine.execDf12 p s
  | .df13 p => Sys2Proof.Machine.execDf13 p s
  | .df14 p => Sys2Proof.Machine.execDf14 p s
  | .df15 p => Sys2Proof.Machine.execDf15 p s
  | .df16 p => Sys2Proof.Machine.execDf16 p s
  | .df17Noes p => Sys2Proof.Machine.execDf17Noes p s
  | .df17NoneT0 p => Sys2Proof.Machine.execDf17NoneT0 p s
  | .df17IdentT1 p => Sys2Proof.Machine.execDf17IdentT1 p s
  | .df17IdentT2 p => Sys2Proof.Machine.execDf17IdentT2 p s
  | .df17IdentT3 p => Sys2Proof.Machine.execDf17IdentT3 p s
  | .df17IdentT4 p => Sys2Proof.Machine.execDf17IdentT4 p s
  | .df17NoneT5 p => Sys2Proof.Machine.execDf17NoneT5 p s
  | .df17NoneT6 p => Sys2Proof.Machine.execDf17NoneT6 p s
  | .df17NoneT7 p => Sys2Proof.Machine.execDf17NoneT7 p s
  | .df17NoneT8 p => Sys2Proof.Machine.execDf17NoneT8 p s
  | .df17AirposT9 p => Sys2Proof.Machine.execDf17AirposT9 p s
  | .df17AirposT10 p => Sys2Proof.Machine.execDf17AirposT10 p s
  | .df17AirposT11 p => Sys2Proof.Machine.execDf17AirposT11 p s
  | .df17AirposT12 p => Sys2Proof.Machine.execDf17AirposT12 p s
  | .df17AirposT13 p => Sys2Proof.Machine.execDf17AirposT13 p s
  | .df17AirposT14 p => Sys2Proof.Machine.execDf17AirposT14 p s
  | .df17AirposT15 p => Sys2Proof.Machine.execDf17AirposT15 p s
  | .df17AirposT16 p => Sys2Proof.Machine.execDf17AirposT16 p s
  | .df17AirposT17 p => Sys2Proof.Machine.execDf17AirposT17 p s
  | .df17AirposT18 p => Sys2Proof.Machine.execDf17AirposT18 p s
  | .df17NoneT19S0 p => Sys2Proof.Machine.execDf17NoneT19S0 p s
  | .df17VelGsT19S1 p => Sys2Proof.Machine.execDf17VelGsT19S1 p s
  | .df17VelGsT19S2 p => Sys2Proof.Machine.execDf17VelGsT19S2 p s
  | .df17VelHdgT19S3 p => Sys2Proof.Machine.execDf17VelHdgT19S3 p s
  | .df17VelHdgT19S4 p => Sys2Proof.Machine.execDf17VelHdgT19S4 p s
  | .df17NoneT19S5 p => Sys2Proof.Machine.execDf17NoneT19S5 p s
  | .df17NoneT19S6 p => Sys2Proof.Machine.execDf17NoneT19S6 p s
  | .df17NoneT19S7 p => Sys2Proof.Machine.execDf17NoneT19S7 p s
  | .df17NoneT20 p => Sys2Proof.Machine.execDf17NoneT20 p s
  | .df17NoneT21 p => Sys2Proof.Machine.execDf17NoneT21 p s
  | .df17NoneT22 p => Sys2Proof.Machine.execDf17NoneT22 p s
  | .df17NoneT23 p => Sys2Proof.Machine.execDf17NoneT23 p s
  | .df17NoneT24 p => Sys2Proof.Machine.execDf17NoneT24 p s
  | .df17NoneT25 p => Sys2Proof.Machine.execDf17NoneT25 p s
  | .df17NoneT26 p => Sys2Proof.Machine.execDf17NoneT26 p s
  | .df17NoneT27 p => Sys2Proof.Machine.execDf17NoneT27 p s
  | .df17NoneT28 p => Sys2Proof.Machine.execDf17NoneT28 p s
  | .df17NoneT29 p => Sys2Proof.Machine.execDf17NoneT29 p s
  | .df17NoneT30 p => Sys2Proof.Machine.execDf17NoneT30 p s
  | .df17NoneT31 p => Sys2Proof.Machine.execDf17NoneT31 p s
  | .df18Noes p => Sys2Proof.Machine.execDf18Noes p s
  | .df18NoneT0 p => Sys2Proof.Machine.execDf18NoneT0 p s
  | .df18IdentT1 p => Sys2Proof.Machine.execDf18IdentT1 p s
  | .df18IdentT2 p => Sys2Proof.Machine.execDf18IdentT2 p s
  | .df18IdentT3 p => Sys2Proof.Machine.execDf18IdentT3 p s
  | .df18IdentT4 p => Sys2Proof.Machine.execDf18IdentT4 p s
  | .df18NoneT5 p => Sys2Proof.Machine.execDf18NoneT5 p s
  | .df18NoneT6 p => Sys2Proof.Machine.execDf18NoneT6 p s
  | .df18NoneT7 p => Sys2Proof.Machine.execDf18NoneT7 p s
  | .df18NoneT8 p => Sys2Proof.Machine.execDf18NoneT8 p s
  | .df18AirposT9 p => Sys2Proof.Machine.execDf18AirposT9 p s
  | .df18AirposT10 p => Sys2Proof.Machine.execDf18AirposT10 p s
  | .df18AirposT11 p => Sys2Proof.Machine.execDf18AirposT11 p s
  | .df18AirposT12 p => Sys2Proof.Machine.execDf18AirposT12 p s
  | .df18AirposT13 p => Sys2Proof.Machine.execDf18AirposT13 p s
  | .df18AirposT14 p => Sys2Proof.Machine.execDf18AirposT14 p s
  | .df18AirposT15 p => Sys2Proof.Machine.execDf18AirposT15 p s
  | .df18AirposT16 p => Sys2Proof.Machine.execDf18AirposT16 p s
  | .df18AirposT17 p => Sys2Proof.Machine.execDf18AirposT17 p s
  | .df18AirposT18 p => Sys2Proof.Machine.execDf18AirposT18 p s
  | .df18NoneT19S0 p => Sys2Proof.Machine.execDf18NoneT19S0 p s
  | .df18VelGsT19S1 p => Sys2Proof.Machine.execDf18VelGsT19S1 p s
  | .df18VelGsT19S2 p => Sys2Proof.Machine.execDf18VelGsT19S2 p s
  | .df18VelHdgT19S3 p => Sys2Proof.Machine.execDf18VelHdgT19S3 p s
  | .df18VelHdgT19S4 p => Sys2Proof.Machine.execDf18VelHdgT19S4 p s
  | .df18NoneT19S5 p => Sys2Proof.Machine.execDf18NoneT19S5 p s
  | .df18NoneT19S6 p => Sys2Proof.Machine.execDf18NoneT19S6 p s
  | .df18NoneT19S7 p => Sys2Proof.Machine.execDf18NoneT19S7 p s
  | .df18NoneT20 p => Sys2Proof.Machine.execDf18NoneT20 p s
  | .df18NoneT21 p => Sys2Proof.Machine.execDf18NoneT21 p s
  | .df18NoneT22 p => Sys2Proof.Machine.execDf18NoneT22 p s
  | .df18NoneT23 p => Sys2Proof.Machine.execDf18NoneT23 p s
  | .df18NoneT24 p => Sys2Proof.Machine.execDf18NoneT24 p s
  | .df18NoneT25 p => Sys2Proof.Machine.execDf18NoneT25 p s
  | .df18NoneT26 p => Sys2Proof.Machine.execDf18NoneT26 p s
  | .df18NoneT27 p => Sys2Proof.Machine.execDf18NoneT27 p s
  | .df18NoneT28 p => Sys2Proof.Machine.execDf18NoneT28 p s
  | .df18NoneT29 p => Sys2Proof.Machine.execDf18NoneT29 p s
  | .df18NoneT30 p => Sys2Proof.Machine.execDf18NoneT30 p s
  | .df18NoneT31 p => Sys2Proof.Machine.execDf18NoneT31 p s
  | .df19 p => Sys2Proof.Machine.execDf19 p s
  | .df20 p => Sys2Proof.Machine.execDf20 p s
  | .df21 p => Sys2Proof.Machine.execDf21 p s
  | .df22 p => Sys2Proof.Machine.execDf22 p s
  | .df23 p => Sys2Proof.Machine.execDf23 p s
  | .df24 p => Sys2Proof.Machine.execDf24 p s
  | .df25 p => Sys2Proof.Machine.execDf25 p s
  | .df26 p => Sys2Proof.Machine.execDf26 p s
  | .df27 p => Sys2Proof.Machine.execDf27 p s
  | .df28 p => Sys2Proof.Machine.execDf28 p s
  | .df29 p => Sys2Proof.Machine.execDf29 p s
  | .df30 p => Sys2Proof.Machine.execDf30 p s
  | .df31 p => Sys2Proof.Machine.execDf31 p s
  | .nop => Sys2Proof.Machine.execNop s
  | .decode line => Sys2Proof.Machine.execDecode line s
  | .statsRead => Sys2Proof.Machine.execStatsRead s
  | .statsReset => Sys2Proof.Machine.execStatsReset s

end Sys2Proof.Machine
end

