-- ==== Sys2Proof/Machine/Parametric.lean ====
section
/-! DEFINITION. The meaning of an instruction over any read-only constants and any counter width (10_state.md R33,
00_scope.md R7). `exec` is this at the defaults; the lemma `exec_eq_execOver` says so for every instruction. -/

namespace Sys2Proof.Machine

/-- An instruction's meaning over the parameters `P` and a counter width `CNT_W = w` (10_state.md R33, 00_scope.md R7). -/
def execOver {w : Nat} (P : Parameters) (i : Instr) (s : State w) : Host.Outcome (State w) Fault Refusal :=
  match i with
  | .df0 p => execDf0Over P p s
  | .df1 p => execDf1Over P p s
  | .df2 p => execDf2Over P p s
  | .df3 p => execDf3Over P p s
  | .df4 p => execDf4Over P p s
  | .df5 p => execDf5Over P p s
  | .df6 p => execDf6Over P p s
  | .df7 p => execDf7Over P p s
  | .df8 p => execDf8Over P p s
  | .df9 p => execDf9Over P p s
  | .df10 p => execDf10Over P p s
  | .df11 p => execDf11Over P p s
  | .df12 p => execDf12Over P p s
  | .df13 p => execDf13Over P p s
  | .df14 p => execDf14Over P p s
  | .df15 p => execDf15Over P p s
  | .df16 p => execDf16Over P p s
  | .df17Noes p => execDf17NoesOver P p s
  | .df17NoneT0 p => execDf17NoneT0Over P p s
  | .df17IdentT1 p => execDf17IdentT1Over P p s
  | .df17IdentT2 p => execDf17IdentT2Over P p s
  | .df17IdentT3 p => execDf17IdentT3Over P p s
  | .df17IdentT4 p => execDf17IdentT4Over P p s
  | .df17NoneT5 p => execDf17NoneT5Over P p s
  | .df17NoneT6 p => execDf17NoneT6Over P p s
  | .df17NoneT7 p => execDf17NoneT7Over P p s
  | .df17NoneT8 p => execDf17NoneT8Over P p s
  | .df17AirposT9 p => execDf17AirposT9Over P p s
  | .df17AirposT10 p => execDf17AirposT10Over P p s
  | .df17AirposT11 p => execDf17AirposT11Over P p s
  | .df17AirposT12 p => execDf17AirposT12Over P p s
  | .df17AirposT13 p => execDf17AirposT13Over P p s
  | .df17AirposT14 p => execDf17AirposT14Over P p s
  | .df17AirposT15 p => execDf17AirposT15Over P p s
  | .df17AirposT16 p => execDf17AirposT16Over P p s
  | .df17AirposT17 p => execDf17AirposT17Over P p s
  | .df17AirposT18 p => execDf17AirposT18Over P p s
  | .df17NoneT19S0 p => execDf17NoneT19S0Over P p s
  | .df17VelGsT19S1 p => execDf17VelGsT19S1Over P p s
  | .df17VelGsT19S2 p => execDf17VelGsT19S2Over P p s
  | .df17VelHdgT19S3 p => execDf17VelHdgT19S3Over P p s
  | .df17VelHdgT19S4 p => execDf17VelHdgT19S4Over P p s
  | .df17NoneT19S5 p => execDf17NoneT19S5Over P p s
  | .df17NoneT19S6 p => execDf17NoneT19S6Over P p s
  | .df17NoneT19S7 p => execDf17NoneT19S7Over P p s
  | .df17NoneT20 p => execDf17NoneT20Over P p s
  | .df17NoneT21 p => execDf17NoneT21Over P p s
  | .df17NoneT22 p => execDf17NoneT22Over P p s
  | .df17NoneT23 p => execDf17NoneT23Over P p s
  | .df17NoneT24 p => execDf17NoneT24Over P p s
  | .df17NoneT25 p => execDf17NoneT25Over P p s
  | .df17NoneT26 p => execDf17NoneT26Over P p s
  | .df17NoneT27 p => execDf17NoneT27Over P p s
  | .df17NoneT28 p => execDf17NoneT28Over P p s
  | .df17NoneT29 p => execDf17NoneT29Over P p s
  | .df17NoneT30 p => execDf17NoneT30Over P p s
  | .df17NoneT31 p => execDf17NoneT31Over P p s
  | .df18Noes p => execDf18NoesOver P p s
  | .df18NoneT0 p => execDf18NoneT0Over P p s
  | .df18IdentT1 p => execDf18IdentT1Over P p s
  | .df18IdentT2 p => execDf18IdentT2Over P p s
  | .df18IdentT3 p => execDf18IdentT3Over P p s
  | .df18IdentT4 p => execDf18IdentT4Over P p s
  | .df18NoneT5 p => execDf18NoneT5Over P p s
  | .df18NoneT6 p => execDf18NoneT6Over P p s
  | .df18NoneT7 p => execDf18NoneT7Over P p s
  | .df18NoneT8 p => execDf18NoneT8Over P p s
  | .df18AirposT9 p => execDf18AirposT9Over P p s
  | .df18AirposT10 p => execDf18AirposT10Over P p s
  | .df18AirposT11 p => execDf18AirposT11Over P p s
  | .df18AirposT12 p => execDf18AirposT12Over P p s
  | .df18AirposT13 p => execDf18AirposT13Over P p s
  | .df18AirposT14 p => execDf18AirposT14Over P p s
  | .df18AirposT15 p => execDf18AirposT15Over P p s
  | .df18AirposT16 p => execDf18AirposT16Over P p s
  | .df18AirposT17 p => execDf18AirposT17Over P p s
  | .df18AirposT18 p => execDf18AirposT18Over P p s
  | .df18NoneT19S0 p => execDf18NoneT19S0Over P p s
  | .df18VelGsT19S1 p => execDf18VelGsT19S1Over P p s
  | .df18VelGsT19S2 p => execDf18VelGsT19S2Over P p s
  | .df18VelHdgT19S3 p => execDf18VelHdgT19S3Over P p s
  | .df18VelHdgT19S4 p => execDf18VelHdgT19S4Over P p s
  | .df18NoneT19S5 p => execDf18NoneT19S5Over P p s
  | .df18NoneT19S6 p => execDf18NoneT19S6Over P p s
  | .df18NoneT19S7 p => execDf18NoneT19S7Over P p s
  | .df18NoneT20 p => execDf18NoneT20Over P p s
  | .df18NoneT21 p => execDf18NoneT21Over P p s
  | .df18NoneT22 p => execDf18NoneT22Over P p s
  | .df18NoneT23 p => execDf18NoneT23Over P p s
  | .df18NoneT24 p => execDf18NoneT24Over P p s
  | .df18NoneT25 p => execDf18NoneT25Over P p s
  | .df18NoneT26 p => execDf18NoneT26Over P p s
  | .df18NoneT27 p => execDf18NoneT27Over P p s
  | .df18NoneT28 p => execDf18NoneT28Over P p s
  | .df18NoneT29 p => execDf18NoneT29Over P p s
  | .df18NoneT30 p => execDf18NoneT30Over P p s
  | .df18NoneT31 p => execDf18NoneT31Over P p s
  | .df19 p => execDf19Over P p s
  | .df20 p => execDf20Over P p s
  | .df21 p => execDf21Over P p s
  | .df22 p => execDf22Over P p s
  | .df23 p => execDf23Over P p s
  | .df24 p => execDf24Over P p s
  | .df25 p => execDf25Over P p s
  | .df26 p => execDf26Over P p s
  | .df27 p => execDf27Over P p s
  | .df28 p => execDf28Over P p s
  | .df29 p => execDf29Over P p s
  | .df30 p => execDf30Over P p s
  | .df31 p => execDf31Over P p s
  | .nop => execNopOver s
  | .decode line => execDecodeOver P line s
  | .statsRead => execStatsReadOver s
  | .statsReset => execStatsResetOver s

end Sys2Proof.Machine
end

