-- ==== Sys2Proof/Machine/Step.lean ====
section
/-! DEFINITION. One step: the host's next move, whole (70_reset_and_hazards.md R303). -/

namespace Sys2Proof.Machine

/-- One step, the command fetched being run by `run`. Idle keeps all state (60_exceptions.md R283). -/
def stepBy {w : Nat} (run : Instr → State w → Host.Outcome (State w) Fault Refusal) (s : State w) :
    Host.Outcome (State w) Fault Refusal :=
  match fetch s with
  | .idle => .next s
  | .resetEvent s' => .next s'
  | .run i s' => run i s'

/-- The step function, with the named parameters of 00_scope.md R7 as its arguments: the counter width `CNT_W`, and in `P` the
read-only constants (10_state.md R33) and the velocity layout. -/
def stepOver {cntW : Nat} (P : Parameters) (s : State cntW) : Host.Outcome (State cntW) Fault Refusal :=
  stepBy (execOver P) s

/-- One step of the block at the default parameters (log entry 21). -/
def step (s : State) : Host.Outcome State Fault Refusal := stepBy exec s

/-- `s` with a table word's command as the host's next move (log entry 9). -/
def State.withFetchWord (s : State) (nbits w : Nat) : State := presentTableWord s nbits w

/-- The machine behind the host's interface, for any counter width and any parameters. -/
def coreOver (cntW : Nat) (P : Parameters) : Host.Core :=
  { State := State cntW, Fault := Fault, Refusal := Refusal, step := stepOver P, reset := State.resetOver cntW }

end Sys2Proof.Machine
end

