-- ==== Sys2Proof/Safety.lean ====
section
/-! DEFINITION. What counts as a sound state, a sound response and a safe run, and the frame classes by the shape of their
response, in the terms the statements use. -/

namespace Sys2Proof

open Machine

/-! ## Sound states -/

/-- The inequalities of 44_commands.md R252: no more errors and no more checksum failures than frames, and, short of
saturation of `frames_seen`, no more of the two together. -/
def CountersOrdered {w : Nat} (st : Stat w) : Prop :=
  st.invalidFrames.toNat ≤ st.framesSeen.toNat ∧ st.crcFailures.toNat ≤ st.framesSeen.toNat ∧
    (st.framesSeen = BitVec.allOnes w ∨
      st.invalidFrames.toNat + st.crcFailures.toNat ≤ st.framesSeen.toNat)

/-- `N` is at most 14 and every register past the payload reads zero (10_state.md R28, 20_memory.md R54). -/
def BufferFilled {w : Nat} (s : State w) : Prop :=
  s.n.toNat ≤ 14 ∧ ∀ i, s.n.toNat ≤ i → i < 14 → s.buf.byte i = 0

/-- The class code a `metype` and `mesub` select (30_encoding.md R97, R101). -/
def classFor (metype mesub : Nat) : Nat :=
  if metype = 0 then 0
  else if metype ≤ 4 then 1
  else if metype ≤ 8 then 0
  else if metype ≤ 18 then 2
  else if metype = 19 then (if mesub = 1 ∨ mesub = 2 then 3 else if mesub = 3 ∨ mesub = 4 then 4 else 0)
  else 0

/-- An `OK` response says what 10_state.md R29, R30 and R31 say of it: the lengths, `crc_valid`, and each group present
exactly when its condition holds. -/
structure MessageSound (env : Envelope) (g : Groups) : Prop where
  rawLen : 1 ≤ env.rawLen.toNat ∧ env.rawLen.toNat ≤ 14
  rawFill : ∀ i, env.rawLen.toNat ≤ i → i < 14 → env.rawBytes.byte i = 0
  format : env.downlinkFormat.toNat = (env.rawBytes.byte 0).toNat / 8
  bits : env.bitLength.toNat = if env.downlinkFormat.toNat ∈ [16, 17, 19, 20, 21] then 112 else 56
  valid : env.crcValid = true ↔ env.crcValue = env.crcCalc
  ca : g.ca.isSome = true ↔ env.downlinkFormat.toNat = 11
  fs : g.fs.isSome = true ↔ env.downlinkFormat.toNat ∈ [4, 5, 20, 21] ∧ 3 ≤ env.rawLen.toNat
  ac13 : g.ac13.isSome = true ↔ env.downlinkFormat.toNat ∈ [0, 4, 16, 20] ∧ 4 ≤ env.rawLen.toNat
  es : g.es.isSome = true ↔ env.downlinkFormat.toNat ∈ [17, 18] ∧ 11 ≤ env.rawLen.toNat
  esClass : ∀ e, g.es = some e →
    e.metype.toNat = (env.rawBytes.byte 4).toNat / 8 ∧ e.mesub.toNat = (env.rawBytes.byte 4).toNat % 8 ∧
      (Machine.esClass e.payload).toNat = classFor e.metype.toNat e.mesub.toNat

/-- A response a sound machine gives. -/
def ResponseSound {w : Nat} : Response w → Prop
  | .ok env g => MessageSound env g
  | .error _ => True
  | .snapshot st => CountersOrdered st
  | .empty => True

/-- The invariant of the machine: the counters are ordered, the buffer is filled with zeros past the payload, and the
response record and every response delivered are sound. -/
structure SoundState {w : Nat} (s : State w) : Prop where
  counters : CountersOrdered s.stat
  buffer : BufferFilled s
  res : ∀ r, s.res = some r → ResponseSound r
  delivered : ∀ r ∈ s.delivered, ResponseSound r

/-- A safe run: `k` steps are answered by a state that meets the invariant. -/
def SafeFor (k : Nat) (s : State) : Prop := ∃ t, core.run k s = .next t ∧ SoundState t

/-- The constraints 93_implementation_defined.md U13, U14 and U15 put on the parameters: 112 constants, the last 24 zero; 64
symbols; a velocity layout inside bytes 5 to 9 (message bits 40 to 79). -/
structure Admitted (P : Parameters) : Prop where
  tableLength : P.crcTable.length = 112
  tableZeros : ∀ k, k < 112 → 88 ≤ k → P.crcTable.getD k 0 = 0
  charSetLength : P.charSet.length = 64
  layout : ∀ f ∈ [(P.velLayout.ewDir, 1), (P.velLayout.ewSpeed, 10), (P.velLayout.nsDir, 1), (P.velLayout.nsSpeed, 10),
    (P.velLayout.vrSource, 1), (P.velLayout.vrSign, 1), (P.velLayout.vrMagnitude, 9)], 40 ≤ f.1 ∧ f.1 + f.2 ≤ 80

/-! ## The shapes of the frame classes -/

/-- The classes with the envelope alone, each with its format (30_encoding.md R96; formats 17 and 18 with `N <= 10`). -/
def envelopeOnlyClasses : List ((Payload → Instr) × FrameFormat) :=
  [(.df1, .short56), (.df2, .short56), (.df3, .short56), (.df6, .short56), (.df7, .short56), (.df8, .short56),
   (.df9, .short56), (.df10, .short56), (.df12, .short56), (.df13, .short56), (.df14, .short56), (.df15, .short56),
   (.df22, .short56), (.df23, .short56), (.df24, .short56), (.df25, .short56), (.df26, .short56), (.df27, .short56),
   (.df28, .short56), (.df29, .short56), (.df30, .short56), (.df31, .short56), (.df19, .long112),
   (.df17Noes, .long112), (.df18Noes, .short56)]

/-- The identification classes (R97). -/
def identClasses : List ((Payload → Instr) × FrameFormat) :=
  [(.df17IdentT1, .long112), (.df17IdentT2, .long112), (.df17IdentT3, .long112), (.df17IdentT4, .long112),
   (.df18IdentT1, .short56), (.df18IdentT2, .short56), (.df18IdentT3, .short56), (.df18IdentT4, .short56)]

/-- The airborne-position classes (R97). -/
def airposClasses : List ((Payload → Instr) × FrameFormat) :=
  [(.df17AirposT9, .long112), (.df17AirposT10, .long112), (.df17AirposT11, .long112), (.df17AirposT12, .long112),
   (.df17AirposT13, .long112), (.df17AirposT14, .long112), (.df17AirposT15, .long112), (.df17AirposT16, .long112),
   (.df17AirposT17, .long112), (.df17AirposT18, .long112),
   (.df18AirposT9, .short56), (.df18AirposT10, .short56), (.df18AirposT11, .short56), (.df18AirposT12, .short56),
   (.df18AirposT13, .short56), (.df18AirposT14, .short56), (.df18AirposT15, .short56), (.df18AirposT16, .short56),
   (.df18AirposT17, .short56), (.df18AirposT18, .short56)]

/-- The classes of airborne velocity in the ground-speed form (R97). -/
def velGsClasses : List ((Payload → Instr) × FrameFormat) :=
  [(.df17VelGsT19S1, .long112), (.df17VelGsT19S2, .long112), (.df18VelGsT19S1, .short56), (.df18VelGsT19S2, .short56)]

/-- The classes of airborne velocity in the airspeed/heading form (R97). -/
def velHdgClasses : List ((Payload → Instr) × FrameFormat) :=
  [(.df17VelHdgT19S3, .long112), (.df17VelHdgT19S4, .long112), (.df18VelHdgT19S3, .short56),
   (.df18VelHdgT19S4, .short56)]

/-- The extended-squitter classes with no sub-decoder (R97). -/
def noneClasses : List ((Payload → Instr) × FrameFormat) :=
  [(.df17NoneT0, .long112), (.df17NoneT5, .long112), (.df17NoneT6, .long112), (.df17NoneT7, .long112),
   (.df17NoneT8, .long112), (.df17NoneT19S0, .long112), (.df17NoneT19S5, .long112), (.df17NoneT19S6, .long112),
   (.df17NoneT19S7, .long112), (.df17NoneT20, .long112), (.df17NoneT21, .long112), (.df17NoneT22, .long112),
   (.df17NoneT23, .long112), (.df17NoneT24, .long112), (.df17NoneT25, .long112), (.df17NoneT26, .long112),
   (.df17NoneT27, .long112), (.df17NoneT28, .long112), (.df17NoneT29, .long112), (.df17NoneT30, .long112),
   (.df17NoneT31, .long112),
   (.df18NoneT0, .short56), (.df18NoneT5, .short56), (.df18NoneT6, .short56), (.df18NoneT7, .short56),
   (.df18NoneT8, .short56), (.df18NoneT19S0, .short56), (.df18NoneT19S5, .short56), (.df18NoneT19S6, .short56),
   (.df18NoneT19S7, .short56), (.df18NoneT20, .short56), (.df18NoneT21, .short56), (.df18NoneT22, .short56),
   (.df18NoneT23, .short56), (.df18NoneT24, .short56), (.df18NoneT25, .short56), (.df18NoneT26, .short56),
   (.df18NoneT27, .short56), (.df18NoneT28, .short56), (.df18NoneT29, .short56), (.df18NoneT30, .short56),
   (.df18NoneT31, .short56)]

/-! ## What a response holds, by arithmetic on the payload's bytes -/

/-- Byte `i` of a payload as a number; 0 past its end (20_memory.md R54). -/
def byteNat (p : Payload) (i : Nat) : Nat := (p.getD i 0).toNat

/-- Message bit `j` of a payload, most significant bit of byte 0 first (00_scope.md R10). -/
def payloadBit (p : Payload) (j : Nat) : Bool := (byteNat p (j / 8)).testBit (7 - j % 8)

/-- The XOR of `T[j + offset]` over the set bits `j` below `bits` (41_crc.md R144). -/
def xorOfSetBits (T : List Crc24) (p : Payload) (offset bits : Nat) : Crc24 :=
  (((List.range bits).filter (payloadBit p)).map fun j => T.getD (j + offset) 0).foldr (· ^^^ ·) 0

/-- The envelope of a frame in a format over a CRC table (42_dispatch_common.md R169), its numbers by arithmetic (R160, R161,
R168; 41_crc.md R143 to R146). -/
structure EnvelopeOver (T : List Crc24) (fmt : FrameFormat) (p : Payload) (env : Envelope) : Prop where
  rawLen : env.rawLen.toNat = p.length
  rawBytes : ∀ i, i < 14 → (env.rawBytes.byte i).toNat = byteNat p i
  downlinkFormat : env.downlinkFormat.toNat = byteNat p 0 / 8
  bitLength : env.bitLength.toNat = match fmt with | .short56 => 56 | .long112 => 112
  crcCalc : env.crcCalc = match fmt with
    | .short56 => xorOfSetBits T p 56 56
    | .long112 => xorOfSetBits T p 0 112
  crcValue : env.crcValue.toNat = match fmt with
    | .short56 => byteNat p 4 * 65536 + byteNat p 5 * 256 + byteNat p 6
    | .long112 => byteNat p 11 * 65536 + byteNat p 12 * 256 + byteNat p 13
  crcValid : env.crcValid = true ↔ env.crcValue = env.crcCalc
  address : env.address.toNat = byteNat p 1 * 65536 + byteNat p 2 * 256 + byteNat p 3

/-- The envelope over the default table. -/
abbrev EnvelopeOf (fmt : FrameFormat) (p : Payload) (env : Envelope) : Prop := EnvelopeOver Config.crcTable fmt p env

/-- The three bytes of a checksum word, most significant first (30_encoding.md R90). -/
def checksumBytes (c : Crc24) : List Byte := [c.extractLsb' 16 8, c.extractLsb' 8 8, c.extractLsb' 0 8]

/-- The state after a DECODE that ends `OK`: the frame counted, a mismatch counted, the payload loaded, the response
delivered; the other counter and the host's moves as before. -/
def afterFrame {w : Nat} (s : State w) (p : Payload) (env : Envelope) (g : Groups) : State w where
  stat := { framesSeen := satInc s.stat.framesSeen
            invalidFrames := s.stat.invalidFrames
            crcFailures := if env.crcValid then s.stat.crcFailures else satInc s.stat.crcFailures }
  buf := frameOf p
  n := BitVec.ofNat 4 p.length
  res := some (.ok env g)
  moves := s.moves
  delivered := s.delivered ++ [.ok env g]

/-- The value of a hex digit character as a number (30_encoding.md R81); 0 for any other character. -/
def digitNat (c : Byte) : Nat :=
  if 0x30 ≤ c.toNat ∧ c.toNat ≤ 0x39 then c.toNat - 0x30
  else if 0x41 ≤ c.toNat ∧ c.toNat ≤ 0x46 then c.toNat - 0x41 + 10
  else if 0x61 ≤ c.toNat ∧ c.toNat ≤ 0x66 then c.toNat - 0x61 + 10
  else 0

/-- One more, but no more than a counter holds (10_state.md R25). -/
def countedUp {w : Nat} (c : Counter w) : Nat := min (c.toNat + 1) (2 ^ w - 1)

/-- Counters of the same values in a block of counter width `v` (00_scope.md R7); none is lost where `v` is no less. -/
def Stat.atWidth {w : Nat} (v : Nat) (st : Stat w) : Stat v where
  framesSeen := st.framesSeen.setWidth v
  invalidFrames := st.invalidFrames.setWidth v
  crcFailures := st.crcFailures.setWidth v

/-- The same response, its counters in a block of counter width `v`. -/
def Response.atWidth {w : Nat} (v : Nat) : Response w → Response v
  | .ok env g => .ok env g
  | .error e => .error e
  | .snapshot st => .snapshot (Stat.atWidth v st)
  | .empty => .empty

/-- The same state, its counters in a block of counter width `v`. -/
def State.atWidth {w : Nat} (v : Nat) (s : State w) : State v where
  stat := Stat.atWidth v s.stat
  buf := s.buf
  n := s.n
  res := s.res.map (Response.atWidth v)
  moves := s.moves
  delivered := s.delivered.map (Response.atWidth v)

/-- The host's move is a DECODE. -/
def isDecode : HostMove → Bool
  | .command w => w.code == 0b01
  | .reset _ => false

/-- The line is one the validator rejects. -/
def rejects (line : Line) : Bool :=
  match validate line with
  | .raised _ => true
  | .loaded _ => false

/-- The line carries a frame whose checksums differ (41_crc.md R146). -/
def mismatches (line : Line) : Bool :=
  match validate line with
  | .raised _ => false
  | .loaded p => !crcValid (formatOf (downlinkFormat (frameOf p))) (frameOf p)

/-- The number the 48 bits of bytes 5 to 10 make (30_encoding.md R91). -/
def esNumber (p : Payload) : Nat :=
  (((((byteNat p 5 * 256 + byteNat p 6) * 256 + byteNat p 7) * 256 + byteNat p 8) * 256 + byteNat p 9) * 256)
    + byteNat p 10

/-- `width` bits of bytes 5 to 10 from message bit `lo` on, as a number (00_scope.md R10). -/
def esBits (p : Payload) (lo width : Nat) : Nat := esNumber p / 2 ^ (88 - lo - width) % 2 ^ width

end Sys2Proof
end

