-- ==== Sys2Proof/Certificates/Slice0/Obligations.lean ====
section
/-! DEFINITION. The statements for the provers. Names: `afterFrame`, `EnvelopeOf`, `byteNat`, `esBits` and the lists of
classes are in Sys2Proof/Safety.lean. -/

open Sys2Proof Sys2Proof.Machine

/-! ## Reset, the invariant, the counters -/

/-- The counters are 0, no response exists and nothing waits at the port after reset. The zero counters are the spec's
decision D11. -/
def Obligations.ResetLeavesCountersZero : Prop :=
  State.reset.stat = ⟨0, 0, 0⟩ ∧ State.reset.res = none ∧ State.reset.moves = [] ∧ State.reset.delivered = []

/-- The state after reset meets the invariant. Its buffer and `N` are the model's choice (log entry 1). -/
def Obligations.ResetMeetsInvariant : Prop := SoundState State.reset

/-- Every step keeps the invariant: ordered counters, a zero-filled buffer, sound responses. What rests on choices: the zero
fill past the payload is the spec's decision D7 (log entry 7); that the buffer and `N` are 0 after a reset event, which the
spec leaves unspecified, is the model's choice (log entry 1), and that they keep their content between commands too (log entry
16); the saturation is D10 (log entry 6), the payload each group needs D8 (log entry 10). -/
def Obligations.StepKeepsInvariant : Prop :=
  ∀ s t, SoundState s → step s = .next t → SoundState t

/-- No step but a reset or a STATS_RESET makes a counter smaller. Saturation is the spec's decision D10. -/
def Obligations.CountersFallOnlyByReset : Prop :=
  ∀ s t, step s = .next t → (∀ a rest, s.moves ≠ .reset a :: rest) →
    (∀ w rest, s.moves = .command w :: rest → w.code ≠ 0b11) →
    s.stat.framesSeen.toNat ≤ t.stat.framesSeen.toNat ∧ s.stat.invalidFrames.toNat ≤ t.stat.invalidFrames.toNat ∧
      s.stat.crcFailures.toNat ≤ t.stat.crcFailures.toNat

/-- `frames_seen` goes up by one on every DECODE, whatever the line, and otherwise only falls to 0. That it does so before
the validation is the spec's decision D28, saturation D10. -/
def Obligations.FramesSeenCountsEveryDecode : Prop :=
  (∀ s w rest, s.moves = .command w :: rest → ∃ t, step s = .next t ∧
    (w.code = 0b01 → t.stat.framesSeen.toNat = countedUp s.stat.framesSeen) ∧
    (w.code = 0b11 → t.stat.framesSeen = 0) ∧
    (w.code ≠ 0b01 → w.code ≠ 0b11 → t.stat.framesSeen = s.stat.framesSeen)) ∧
  (∀ s a rest, s.moves = .reset a :: rest → ∃ t, step s = .next t ∧ t.stat.framesSeen = 0)

/-- R23: `invalid_frames` goes up by one on a DECODE that ends in a validation error and on nothing else (a checksum
mismatch among the rest), is read by STATS_READ, and is zeroed by STATS_RESET and by reset. `countedUp` is the spec's `inc`:
that it saturates is decision D10; that a reset zeroes, D11. -/
def Obligations.InvalidFramesCountsErrors : Prop :=
  (∀ s w rest, s.moves = .command w :: rest → ∃ t, step s = .next t ∧
    (w.code = 0b01 → rejects w.line = true → t.stat.invalidFrames.toNat = countedUp s.stat.invalidFrames) ∧
    (w.code = 0b01 → rejects w.line = false → t.stat.invalidFrames = s.stat.invalidFrames) ∧
    (w.code = 0b00 → t.stat.invalidFrames = s.stat.invalidFrames) ∧
    (w.code = 0b10 → t.stat.invalidFrames = s.stat.invalidFrames ∧
      ∃ st, t.res = some (.snapshot st) ∧ st.invalidFrames = s.stat.invalidFrames) ∧
    (w.code = 0b11 → t.stat.invalidFrames = 0)) ∧
  (∀ s a rest, s.moves = .reset a :: rest → ∃ t, step s = .next t ∧ t.stat.invalidFrames = 0)

/-- R24: `crc_failures` goes up by one on a DECODE that passes validation and answers with `crc_value` and `crc_calc` that
differ, is left alone by a DECODE that ends in an error, is read by STATS_READ, and is zeroed by STATS_RESET and by reset.
`countedUp` is the spec's `inc`: that it saturates is decision D10; that a reset zeroes, D11. -/
def Obligations.CrcFailuresCountsMismatches : Prop :=
  (∀ s w rest, s.moves = .command w :: rest → ∃ t, step s = .next t ∧
    (w.code = 0b01 → rejects w.line = true → t.stat.crcFailures = s.stat.crcFailures) ∧
    (w.code = 0b01 → rejects w.line = false → ∃ env g, t.res = some (.ok env g) ∧
      (env.crcValue ≠ env.crcCalc → t.stat.crcFailures.toNat = countedUp s.stat.crcFailures) ∧
      (env.crcValue = env.crcCalc → t.stat.crcFailures = s.stat.crcFailures)) ∧
    (w.code = 0b00 → t.stat.crcFailures = s.stat.crcFailures) ∧
    (w.code = 0b10 → t.stat.crcFailures = s.stat.crcFailures ∧
      ∃ st, t.res = some (.snapshot st) ∧ st.crcFailures = s.stat.crcFailures) ∧
    (w.code = 0b11 → t.stat.crcFailures = 0)) ∧
  (∀ s a rest, s.moves = .reset a :: rest → ∃ t, step s = .next t ∧ t.stat.crcFailures = 0)

/-- After a STATS_RESET and any sequence of DECODEs, STATS_READ answers the number of DECODEs, of rejected lines and of
mismatching frames since that STATS_RESET, each as far as a counter holds. -/
def Obligations.SnapshotCountsTheDecodes : Prop :=
  ∀ (lines : List Line) (read : Line) (clear : Line) (rest : List HostMove) (s : State),
    s.moves = .command ⟨0b11, clear⟩ :: (lines.map fun l => .command ⟨0b01, l⟩) ++ .command ⟨0b10, read⟩ :: rest →
    ∃ t st, core.run (lines.length + 2) s = .next t ∧ t.moves = rest ∧ t.res = some (.snapshot st) ∧
      st.framesSeen.toNat = min lines.length (2 ^ Config.cntW - 1) ∧
      st.invalidFrames.toNat = min (lines.countP rejects) (2 ^ Config.cntW - 1) ∧
      st.crcFailures.toNat = min (lines.countP mismatches) (2 ^ Config.cntW - 1)

/-! ## The commands -/

/-- NOP answers the empty response and changes no other state (the spec's decision D2). -/
def Obligations.NopChangesNothing : Prop :=
  ∀ s, exec .nop s = .next { s with res := some .empty, delivered := s.delivered ++ [.empty] }

/-- STATS_READ answers the three counters of one instant (the spec's decision D24) and changes no other state. -/
def Obligations.StatsReadAnswersTheCounters : Prop :=
  ∀ s, exec .statsRead s =
    .next { s with res := some (.snapshot s.stat), delivered := s.delivered ++ [.snapshot s.stat] }

/-- R253: STATS_RESET clears the three counters in one transition and answers the empty response; the buffer, the payload
length, the host's moves and the responses already delivered are as before, and zero counters are left as they are. -/
def Obligations.StatsResetClearsAllThree : Prop :=
  ∀ s, ∃ t, exec .statsReset s = .next t ∧
    t.stat.framesSeen = 0 ∧ t.stat.invalidFrames = 0 ∧ t.stat.crcFailures = 0 ∧
    t.res = some .empty ∧ t.delivered = s.delivered ++ [.empty] ∧
    t.buf = s.buf ∧ t.n = s.n ∧ t.moves = s.moves ∧ (s.stat = ⟨0, 0, 0⟩ → t.stat = s.stat)

/-- R276, R277: a DECODE of a rejected line is counted, counts one invalid frame and answers the error alone; nothing is
loaded, no checksum failure is counted, and the host's moves wait as before. -/
def Obligations.RejectedLineRaisesAndLoadsNothing : Prop :=
  ∀ line e, validate line = .raised e → ∀ s, ∃ t, exec (.decode line) s = .next t ∧
    t.stat.framesSeen.toNat = countedUp s.stat.framesSeen ∧
    t.stat.invalidFrames.toNat = countedUp s.stat.invalidFrames ∧
    t.stat.crcFailures = s.stat.crcFailures ∧ t.buf = s.buf ∧ t.n = s.n ∧
    t.res = some (.error e) ∧ t.delivered = s.delivered ++ [.error e] ∧ t.moves = s.moves

/-! ## The validator -/

/-- R121, R122, R123: a line that is not `* payload ;` is `Invalid`; with both delimiters, a payload of 0 or 1 characters is
`TooShort` and one of more than 28 is `TooLong`, whatever the characters are. -/
def Obligations.ValidatorTestsEndsThenLength : Prop :=
  (∀ s : Line, (∀ pay, s ≠ 0x2A :: pay ++ [0x3B]) → validate s = .raised .invalid) ∧
  (∀ pay : List Byte, pay.length ≤ 1 → validate (0x2A :: pay ++ [0x3B]) = .raised .tooShort) ∧
  (∀ pay : List Byte, 28 < pay.length → validate (0x2A :: pay ++ [0x3B]) = .raised .tooLong)

/-- A payload of 2 to 28 characters is `Invalid` exactly when its count is odd or one of them is no hex digit: the spec's
decision D5. -/
def Obligations.OddOrNonHexPayloadIsInvalid : Prop :=
  ∀ pay : List Byte, 2 ≤ pay.length → pay.length ≤ 28 →
    (validate (0x2A :: pay ++ [0x3B]) = .raised .invalid ↔ pay.length % 2 = 1 ∨ ∃ c ∈ pay, isHexDigit c = false)

/-- R126: 1 to 14 pairs of hex digits between the delimiters are loaded as that many bytes, the first digit of a pair the
high nibble, and the rest of the buffer is zero (the zero fill is the spec's decision D7, both cases of digits D4). -/
def Obligations.HexPairsLoadTheirBytes : Prop :=
  ∀ cs : List (Byte × Byte), 1 ≤ cs.length → cs.length ≤ 14 →
    (∀ c ∈ cs, isHexDigit c.1 = true ∧ isHexDigit c.2 = true) →
    ∀ s, ∃ t, exec (decode ⟨0b01, 0x2A :: (cs.flatMap fun c => [c.1, c.2]) ++ [0x3B]⟩) s = .next t ∧
      t.n.toNat = cs.length ∧
      (∀ i c, cs[i]? = some c → (t.buf.byte i).toNat = 16 * digitNat c.1 + digitNat c.2) ∧
      (∀ i, cs.length ≤ i → i < 14 → t.buf.byte i = 0)

/-- The hex digits of both cases have their values and no other code has one (the ASCII codes are general knowledge, the
acceptance of both cases the spec's decision D4). -/
def Obligations.HexDigitsHaveTheirValues : Prop :=
  ∀ c : Byte, (isHexDigit c = true → ∃ v, hexval c = some v ∧ v.toNat = digitNat c) ∧
    (isHexDigit c = false → hexval c = none)

/-! ## The frame classes -/

/-- The 25 classes with no optional group (every not-assigned format, 19, 24 to 31, and 17 and 18 with at most 10 bytes):
DECODE ends `OK` with the envelope and no group. -/
def Obligations.EnvelopeOnlyFormatsHaveNoGroup : Prop :=
  ∀ c ∈ envelopeOnlyClasses, ∀ p, WellFormed (c.1 p) → ∀ s, ∃ env g,
    exec (c.1 p) s = .next (afterFrame s p env g) ∧ EnvelopeOf c.2 p env ∧
    g.ca = none ∧ g.fs = none ∧ g.ac13 = none ∧ g.es = none

/-- DF11: the capability code is the low three bits of byte 0; no other group. -/
def Obligations.AllCallHasItsCapability : Prop :=
  ∀ p, WellFormed (.df11 p) → ∀ s, ∃ env g ca,
    exec (.df11 p) s = .next (afterFrame s p env g) ∧ EnvelopeOf .short56 p env ∧
    g.ca = some ca ∧ ca.toNat = byteNat p 0 % 8 ∧ g.fs = none ∧ g.ac13 = none ∧ g.es = none

/-- DF4, DF5, DF20, DF21: flight status, downlink request and utility message, present exactly when the payload has 3
bytes or more (the count is the spec's decision D8); no CA and no ES group, and for DF5 and DF21 no AC13 group. -/
def Obligations.SurveillanceHasFlightStatus : Prop :=
  ∀ c ∈ [(Instr.df4, FrameFormat.short56), (.df5, .short56), (.df20, .long112), (.df21, .long112)],
    ∀ p, WellFormed (c.1 p) → ∀ s, ∃ env g,
      exec (c.1 p) s = .next (afterFrame s p env g) ∧ EnvelopeOf c.2 p env ∧ g.ca = none ∧ g.es = none ∧
      (byteNat p 0 / 8 = 5 ∨ byteNat p 0 / 8 = 21 → g.ac13 = none) ∧
      (p.length < 3 → g.fs = none) ∧
      (3 ≤ p.length → ∃ f, g.fs = some f ∧ f.flightStatus.toNat = byteNat p 0 % 8 ∧
        f.downlinkRequest.toNat = byteNat p 1 / 8 ∧
        f.utilityMessage.toNat = (byteNat p 1 % 8) * 8 + byteNat p 2 / 32)

/-- DF0, DF4, DF16, DF20: the 13-bit altitude, present exactly when the payload has 4 bytes or more (decision D8), in feet
exactly when M = 0 and Q = 1, never guessed otherwise (the unit is decision D15); no CA and no ES group, and for DF0 and
DF16 no FS group. -/
def Obligations.AltitudeRepliesHaveAltitude : Prop :=
  ∀ c ∈ [(Instr.df0, FrameFormat.short56), (.df4, .short56), (.df16, .long112), (.df20, .long112)],
    ∀ p, WellFormed (c.1 p) → ∀ s, ∃ env g,
      exec (c.1 p) s = .next (afterFrame s p env g) ∧ EnvelopeOf c.2 p env ∧ g.ca = none ∧ g.es = none ∧
      (byteNat p 0 / 8 = 0 ∨ byteNat p 0 / 8 = 16 → g.fs = none) ∧
      (p.length < 4 → g.ac13 = none) ∧
      (4 ≤ p.length → ∃ a, g.ac13 = some a ∧
        (a.m = true ↔ byteNat p 3 / 64 % 2 = 1) ∧ (a.q = true ↔ byteNat p 3 / 16 % 2 = 1) ∧
        (a.unit = .metres ↔ a.m = true) ∧
        (a.m = false ∧ a.q = true → a.altitude = some ((25 : Int) * (((byteNat p 2 % 32) * 64 +
          (byteNat p 3 / 128) * 32 + (byteNat p 3 / 32 % 2) * 16 + byteNat p 3 % 16 : Nat) : Int) - (1000 : Int))) ∧
        (a.m = true ∨ a.q = false → a.altitude = none))

/-- The eight identification classes: character `k` of the callsign is the symbol of the 6-bit code at message bit
`40 + 6k`, and `metype`, `mesub` are byte 4's. The character set is the parameter `CH`, the spec's decision D16. -/
def Obligations.IdentificationGivesTheCallsign : Prop :=
  ∀ c ∈ identClasses, ∀ p, WellFormed (c.1 p) → ∀ s, ∃ env g e cs,
    exec (c.1 p) s = .next (afterFrame s p env g) ∧ EnvelopeOf c.2 p env ∧
    g.ca = none ∧ g.fs = none ∧ g.ac13 = none ∧ g.es = some e ∧
    e.metype.toNat = byteNat p 4 / 8 ∧ e.mesub.toNat = byteNat p 4 % 8 ∧ e.payload = .ident cs ∧
    ∀ k, k < 8 → cs[k]? = Config.charSet[esBits p (40 + 6 * k) 6]?

/-- The twenty airborne-position classes: the two flags, the 12-bit altitude (in feet when Q = 1, absent when Q = 0; the unit
is decision D15), and the raw 17-bit latitude and longitude (90_conflicts.md C4). -/
def Obligations.AirbornePositionGivesItsFields : Prop :=
  ∀ c ∈ airposClasses, ∀ p, WellFormed (c.1 p) → ∀ s, ∃ env g e f,
    exec (c.1 p) s = .next (afterFrame s p env g) ∧ EnvelopeOf c.2 p env ∧
    g.ca = none ∧ g.fs = none ∧ g.ac13 = none ∧ g.es = some e ∧
    e.metype.toNat = byteNat p 4 / 8 ∧ e.mesub.toNat = byteNat p 4 % 8 ∧ e.payload = .airPos f ∧
    (f.oddEvenFlag = true ↔ byteNat p 6 / 4 % 2 = 1) ∧ (f.utcSyncFlag = true ↔ byteNat p 6 / 8 % 2 = 1) ∧
    (f.ac12Q = true ↔ byteNat p 5 % 2 = 1) ∧ f.ac12Unit = .feet ∧
    (f.ac12Q = true →
      f.ac12Altitude = some ((25 : Int) * ((byteNat p 5 / 2 * 16 + byteNat p 6 / 16 : Nat) : Int) - (1000 : Int))) ∧
    (f.ac12Q = false → f.ac12Altitude = none) ∧
    f.rawLatitude.toNat = (byteNat p 6 % 4) * 32768 + byteNat p 7 * 128 + byteNat p 8 / 2 ∧
    f.rawLongitude.toNat = (byteNat p 8 % 2) * 65536 + byteNat p 9 * 256 + byteNat p 10

/-- The four classes of the ground-speed form: the raw fields at the offsets of `VEL_LAYOUT` (decision D21), the ground
speed as the floor of the root of the sum of squares (decision D17), the heading as `headingOf` of the raw fields (what that
is, says `HeadingIsFloorOfBearing`). -/
def Obligations.GroundVelocityGivesItsFields : Prop :=
  ∀ c ∈ velGsClasses, ∀ p, WellFormed (c.1 p) → ∀ s, ∃ env g e f,
    exec (c.1 p) s = .next (afterFrame s p env g) ∧ EnvelopeOf c.2 p env ∧
    g.ca = none ∧ g.fs = none ∧ g.ac13 = none ∧ g.es = some e ∧
    e.metype.toNat = byteNat p 4 / 8 ∧ e.mesub.toNat = byteNat p 4 % 8 ∧ e.payload = .velGs f ∧
    (f.ewDir = true ↔ byteNat p 5 / 4 % 2 = 1) ∧ f.ewSpeed.toNat = (byteNat p 5 % 4) * 256 + byteNat p 6 ∧
    (f.nsDir = true ↔ byteNat p 7 / 128 = 1) ∧ f.nsSpeed.toNat = (byteNat p 7 % 128) * 8 + byteNat p 8 / 32 ∧
    (f.vrSource = true ↔ byteNat p 8 / 16 % 2 = 1) ∧ (f.vrSign = true ↔ byteNat p 8 / 8 % 2 = 1) ∧
    f.vrMagnitude.toNat = (byteNat p 8 % 8) * 64 + byteNat p 9 / 4 ∧
    f.groundSpeed.toNat ^ 2 ≤ f.nsSpeed.toNat ^ 2 + f.ewSpeed.toNat ^ 2 ∧
    f.nsSpeed.toNat ^ 2 + f.ewSpeed.toNat ^ 2 < (f.groundSpeed.toNat + 1) ^ 2 ∧
    f.heading = headingOf Config.dirNeg f.ewDir f.ewSpeed f.nsDir f.nsSpeed

/-- The four classes of the airspeed/heading form: the flag, the raw 7 bits, and the heading in sixteenths of a degree
(decision D17), whatever the flag is. -/
def Obligations.HeadingVelocityGivesItsFields : Prop :=
  ∀ c ∈ velHdgClasses, ∀ p, WellFormed (c.1 p) → ∀ s, ∃ env g e f,
    exec (c.1 p) s = .next (afterFrame s p env g) ∧ EnvelopeOf c.2 p env ∧
    g.ca = none ∧ g.fs = none ∧ g.ac13 = none ∧ g.es = some e ∧
    e.metype.toNat = byteNat p 4 / 8 ∧ e.mesub.toNat = byteNat p 4 % 8 ∧ e.payload = .velHdg f ∧
    (f.headingValid = true ↔ byteNat p 5 / 4 % 2 = 1) ∧
    f.headingRaw.toNat = (byteNat p 5 % 4) * 32 + byteNat p 6 / 8 ∧
    f.headingX16.toNat = 45 * f.headingRaw.toNat

/-- R228: the 42 extended-squitter classes with no sub-decoder end `OK` with the envelope, `metype`, `mesub` and the class
`NONE`, and nothing more. -/
def Obligations.OtherSquittersHaveNoFields : Prop :=
  ∀ c ∈ noneClasses, ∀ p, WellFormed (c.1 p) → ∀ s, ∃ env g e,
    exec (c.1 p) s = .next (afterFrame s p env g) ∧ EnvelopeOf c.2 p env ∧
    g.ca = none ∧ g.fs = none ∧ g.ac13 = none ∧ g.es = some e ∧
    e.metype.toNat = byteNat p 4 / 8 ∧ e.mesub.toNat = byteNat p 4 % 8 ∧ e.payload = .none ∧
    (e.metype.toNat ∈ [0, 5, 6, 7, 8] ∨ 20 ≤ e.metype.toNat ∨
      e.metype.toNat = 19 ∧ e.mesub.toNat ∈ [0, 5, 6, 7])

/-! ## Derived values -/

/-- The heading of the ground-speed form is the floor, in whole degrees, of `atan2(e, s)` taken into 0 to 360, of the real
numbers; 0 at zero speed. The floor is decision D17, the polarity D21, the integer rays of the model log entry 5. -/
def Obligations.HeadingIsFloorOfBearing : Prop :=
  ∀ (ewDir nsDir : Bool) (ew ns : BitVec 10),
    (ew = 0 ∧ ns = 0 → headingOf Config.dirNeg ewDir ew nsDir ns = 0) ∧
    (¬ (ew = 0 ∧ ns = 0) →
      let e : ℝ := if ewDir then -(ew.toNat : ℝ) else ew.toNat
      let s : ℝ := if nsDir then -(ns.toNat : ℝ) else ns.toNat
      let h : ℝ := Complex.arg ⟨s, e⟩ * 180 / Real.pi
      ((headingOf Config.dirNeg ewDir ew nsDir ns).toNat : ℤ) = ⌊if h < 0 then h + 360 else h⌋)

/-- At the eight multiples of 45 degrees the heading is exact, for every speed (43_extended_squitter.md, heading of the
ground-speed form; general knowledge G8 says there are no others). -/
def Obligations.HeadingExactAtMultiplesOf45 : Prop :=
  ∀ v : BitVec 10, v ≠ 0 → ∀ d : Bool,
    headingOf true d 0 false v = 0 ∧ headingOf true false v false v = 45 ∧ headingOf true false v d 0 = 90 ∧
    headingOf true false v true v = 135 ∧ headingOf true d 0 true v = 180 ∧ headingOf true true v true v = 225 ∧
    headingOf true true v d 0 = 270 ∧ headingOf true true v false v = 315

/-- An altitude, where there is one, is a multiple of 25 feet from -1000 to 50175, and stands beside M = 0 and Q = 1. -/
def Obligations.AltitudesLieInTheirRange : Prop :=
  ∀ B : FrameBuf,
    (∀ a, (ac13Fields B).altitude = some a →
      -1000 ≤ a ∧ a ≤ 50175 ∧ a % 25 = 0 ∧ (ac13Fields B).m = false ∧ (ac13Fields B).q = true ∧
        (ac13Fields B).unit = .feet) ∧
    (∀ a, (airPosFields B).ac12Altitude = some a →
      -1000 ≤ a ∧ a ≤ 50175 ∧ a % 25 = 0 ∧ (airPosFields B).ac12Q = true)

/-- Each field read as a byte slice is its range of message bits: the two forms of 30_encoding.md sections 2 and 3 name the
same bits. -/
def Obligations.ByteSlicesAreMessageBits : Prop :=
  ∀ B : FrameBuf,
    (∀ j, j < 112 → messageBit B j = (message B).getMsbD j) ∧
    downlinkFormat B = messageField B 0 5 ∧ capabilityCode B = messageField B 5 3 ∧
    flightStatus B = messageField B 5 3 ∧ address B = messageField B 8 24 ∧
    downlinkRequest B = messageField B 8 5 ∧ utilityMessage B = messageField B 13 6 ∧
    ac13M B = messageBit B 25 ∧ ac13Q B = messageBit B 27 ∧
    ac13N B = messageField B 19 6 ++ messageField B 26 1 ++ messageField B 28 4 ∧
    metype B = messageField B 32 5 ∧ mesub B = messageField B 37 3 ∧
    crcValue .short56 B = messageField B 32 24 ∧ crcValue .long112 B = messageField B 88 24 ∧
    ac12Q B = messageBit B 47 ∧ ac12N B = messageField B 40 7 ++ messageField B 48 4 ∧
    (airPosFields B).utcSyncFlag = messageBit B 52 ∧ (airPosFields B).oddEvenFlag = messageBit B 53 ∧
    rawLatitude B = messageField B 54 17 ∧ rawLongitude B = messageField B 71 17 ∧
    (velHdgFields B).headingValid = messageBit B 45 ∧ headingRaw B = messageField B 46 7

/-! ## The checksum -/

/-- R140: the table has 112 entries and the last 24 are zero. -/
def Obligations.CrcTableEndsInZeros : Prop :=
  Config.crcTable.length = 112 ∧ ∀ k, 88 ≤ k → k ≤ 111 → Config.crcTable[k]? = some 0

/-- The table is the one the polynomial `0x1FFF409` makes (general knowledge G3; the values are decision D20). -/
def Obligations.CrcTableFollowsThePolynomial : Prop :=
  Config.crcTable[87]? = some 0xFFF409 ∧
    ∀ k, k < 87 → Config.crcTable.getD k 0 =
      if Config.crcTable.getD (k + 1) 0 < 0x800000 then Config.crcTable.getD (k + 1) 0 <<< 1
      else (Config.crcTable.getD (k + 1) 0 <<< 1) ^^^ 0xFFF409

/-- R144: over any table whose entries from 88 on are zero (R140), `crc_calc` is the XOR of `T[j + offset]` over the set
message bits below `bit_length`, and the same over those below `bit_length - 24`; the zero frame gives 0, and a frame with one
set bit gives that bit's entry. -/
def Obligations.CrcSumsTheSetBits : Prop :=
  ∀ T : List Crc24, (∀ k, 88 ≤ k → T.getD k 0 = 0) →
    (∀ B : FrameBuf, crcOver T .short56 B = xorOfSetBits T B.toList 56 56 ∧
      crcOver T .short56 B = xorOfSetBits T B.toList 56 32 ∧
      crcOver T .long112 B = xorOfSetBits T B.toList 0 112 ∧
      crcOver T .long112 B = xorOfSetBits T B.toList 0 88) ∧
    (∀ fmt, crcOver T fmt (Vector.replicate 14 0) = 0) ∧
    (∀ fmt B j, j < formatBits fmt → (∀ k, k < 112 → (messageBit B k = true ↔ k = j)) →
      crcOver T fmt B = T.getD (j + (112 - formatBits fmt)) 0)

/-- The checksum of the bytewise XOR of two frames is the XOR of their checksums, for every table. -/
def Obligations.CrcIsLinear : Prop :=
  ∀ (T : List Crc24) (fmt : FrameFormat) (X Y : FrameBuf),
    crcOver T fmt (X.zipWith (· ^^^ ·) Y) = crcOver T fmt X ^^^ crcOver T fmt Y

/-- A frame of 4 (or 11) leading bytes followed by the checksum computed over them decodes with `crc_valid = true`, and
counts no failure. -/
def Obligations.AppendedChecksumVerifies : Prop :=
  ∀ (fmt : FrameFormat) (lead : List Byte) (line : Line),
    lead.length = formatBytes fmt - 3 → formatOf (downlinkFormat (frameOf lead)) = fmt →
    validate line = .loaded (lead ++ checksumBytes (crcCalc fmt (frameOf lead))) →
    ∀ s, ∃ t env g, exec (decode ⟨0b01, line⟩) s = .next t ∧ t.res = some (.ok env g) ∧
      env.crcValid = true ∧ t.stat.crcFailures = s.stat.crcFailures

/-- Flipping any of the 24 checksum bits of a valid frame leaves `crc_calc` as it was, shows the altered `crc_value`, and is
seen: `crc_valid = false`. -/
def Obligations.AlteredChecksumIsSeen : Prop :=
  ∀ (fmt : FrameFormat) (X Y : FrameBuf) (d : Crc24), d ≠ 0 → crcValid fmt X = true →
    (∀ i, i < formatBytes fmt - 3 → Y.byte i = X.byte i) → crcValue fmt Y = crcValue fmt X ^^^ d →
    crcCalc fmt Y = crcCalc fmt X ∧ crcValue fmt Y ≠ crcValue fmt X ∧ crcValid fmt Y = false

/-- R148: two DECODEs whose frames agree in the framed bytes answer the same `crc_calc`, `crc_value` and `crc_valid`, from
any two states, whatever the bytes beyond are. -/
def Obligations.ChecksumReadsTheFramedBytesOnly : Prop :=
  ∀ (l l' : Line) (p p' : Payload) (fmt : FrameFormat),
    validate l = .loaded p → validate l' = .loaded p' → formatOf (downlinkFormat (frameOf p)) = fmt →
    (∀ i, i < formatBytes fmt → p.getD i 0 = p'.getD i 0) →
    ∀ s s', ∃ t t' env env' g g', exec (decode ⟨0b01, l⟩) s = .next t ∧ exec (decode ⟨0b01, l'⟩) s' = .next t' ∧
      t.res = some (.ok env g) ∧ t'.res = some (.ok env' g') ∧
      env.crcCalc = env'.crcCalc ∧ env.crcValue = env'.crcValue ∧ env.crcValid = env'.crcValid

/-- R147: a frame whose checksum does not match ends `OK` with the envelope and the groups its bytes give, counts one more
`crc_failures` and no `invalid_frames`; its bytes are delivered as received. -/
def Obligations.MismatchIsNoError : Prop :=
  ∀ line p, validate line = .loaded p → mismatches line = true → ∀ s, ∃ t env fmt,
    exec (decode ⟨0b01, line⟩) s = .next t ∧ t.res = some (.ok env (groupsOf (frameOf p) p.length)) ∧
    statusCode (.ok env (groupsOf (frameOf p) p.length)) = some 0 ∧ env.crcValid = false ∧
    EnvelopeOf fmt p env ∧ (fmt = .long112 ↔ byteNat p 0 / 8 ∈ [16, 17, 19, 20, 21]) ∧
    t.stat.crcFailures.toNat = countedUp s.stat.crcFailures ∧ t.stat.invalidFrames = s.stat.invalidFrames

/-! ## Encoding -/

/-- Decoding the encoding of any well-formed instruction gives the instruction back. -/
def Obligations.DecodeOfEncode : Prop := ∀ i, WellFormed i → decode (encode i) = i

/-- Whatever the command word, the instruction decoded from it is well formed. -/
def Obligations.DecodedIsWellFormed : Prop := ∀ w, WellFormed (decode w)

/-- Every payload of 1 to 14 bytes is admitted by the row of exactly one frame class, the one the class map gives. -/
def Obligations.RowsCoverEveryFrameOnce : Prop :=
  ∀ p : Payload, 1 ≤ p.length → p.length ≤ 14 →
    ∀ i, (∃ r, classRow i = some (r, p) ∧ r.admits p = true) ↔ i = classify p

/-- Words written out from the spec decode to the instructions they stand for: the four codes, and one line of each
family. -/
def Obligations.WrittenWordsDecode : Prop :=
  decode ⟨0b00, []⟩ = .nop ∧ decode ⟨0b10, []⟩ = .statsRead ∧ decode ⟨0b11, []⟩ = .statsReset ∧
  decode ⟨0b01, [0x2A, 0x3B]⟩ = .decode [0x2A, 0x3B] ∧
  decode ⟨0b01, [0x2A, 0x35, 0x44, 0x3B]⟩ = .df11 [0x5D] ∧
  decode ⟨0b01, [0x2A, 0x32, 0x31, 0x34, 0x64, 0x3B]⟩ = .df4 [0x21, 0x4D] ∧
  decode ⟨0b01, [0x2A, 0x38, 0x64, 0x3B]⟩ = .df17Noes [0x8D] ∧
  decode ⟨0b01, lineOf [0x8D, 0x48, 0x40, 0xD6, 0x20, 0x2C, 0xC3, 0x71, 0xC3, 0x2C, 0xE0]⟩ =
    .df17IdentT4 [0x8D, 0x48, 0x40, 0xD6, 0x20, 0x2C, 0xC3, 0x71, 0xC3, 0x2C, 0xE0] ∧
  decode ⟨0b01, lineOf [0x90, 0x48, 0x50, 0x20, 0x99, 0x44, 0x09, 0x94, 0x08, 0x38, 0x17]⟩ =
    .df18VelGsT19S1 [0x90, 0x48, 0x50, 0x20, 0x99, 0x44, 0x09, 0x94, 0x08, 0x38, 0x17]

/-- A DECODE of a line that carries a frame does what the frame's class says: the flow of R251 over the tests of R161 to
R167 and R220 agrees with the 110 rows, from every state. -/
def Obligations.DecodeRunsItsFrameClass : Prop :=
  ∀ line p, validate line = .loaded p → ∀ s, exec (.decode line) s = exec (classify p) s

/-- A DECODE of a line that carries a frame completes, from every state: the frame is counted and loaded, and the one
response is `OK` with the envelope of the framing its downlink format selects and the groups that format and the payload
length give. -/
def Obligations.DecodeOfAFrameCompletes : Prop :=
  ∀ line p, validate line = .loaded p → ∀ s, ∃ env fmt,
    exec (.decode line) s = .next (afterFrame s p env (groupsOf (frameOf p) p.length)) ∧
    EnvelopeOf fmt p env ∧ (fmt = .long112 ↔ byteNat p 0 / 8 ∈ [16, 17, 19, 20, 21])

/-! ## Steps -/

/-- The step takes the host's next command off the port and runs the instruction it decodes to; a well-formed instruction
presented by its encoding is the one that runs. -/
def Obligations.StepRunsTheDecodedInstruction : Prop :=
  (∀ s w rest, s.moves = .command w :: rest → step s = exec (decode w) { s with moves := rest }) ∧
  (∀ i, WellFormed i → ∀ s rest, s.moves = .command (encode i) :: rest → step s = exec i { s with moves := rest })

/-- With no move of the host waiting, the step keeps all state. -/
def Obligations.IdleKeepsAllState : Prop := ∀ s, s.moves = [] → step s = .next s

/-- A reset event, with or without a command in progress, zeroes the counters and leaves no response, delivers none, and
takes nothing else from the host (decision D11). The buffer and `N` after it are the model's choice (log entry 1) and are not
stated. -/
def Obligations.ResetEventAnswersNothing : Prop :=
  ∀ s a rest, s.moves = .reset a :: rest → ∃ t, step s = .next t ∧ t.stat = ⟨0, 0, 0⟩ ∧ t.res = none ∧
    t.delivered = s.delivered ∧ t.moves = rest

/-- Every step is answered by a next state: no line, no code and no state stops the block. -/
def Obligations.EveryStepCompletes : Prop := ∀ s, ∃ t, step s = .next t

/-- Every command is answered by exactly one response, delivered after those before it, and takes exactly its own move. -/
def Obligations.EveryCommandAnswersOnce : Prop :=
  ∀ s w rest, s.moves = .command w :: rest → ∃ t r, step s = .next t ∧ t.res = some r ∧
    t.delivered = s.delivered ++ [r] ∧ t.moves = rest

/-- The response to a DECODE is a function of its line: the counters, the buffer, earlier frames, errors and responses do not
enter it. -/
def Obligations.ResponseDependsOnTheLineAlone : Prop :=
  ∀ s s' line rest rest', s.moves = .command ⟨0b01, line⟩ :: rest → s'.moves = .command ⟨0b01, line⟩ :: rest' →
    ∃ t t', step s = .next t ∧ step s' = .next t' ∧ t.res = t'.res

/-- The buffer and the payload length are written only by a DECODE whose line carries a frame (and by a reset), with that
frame. -/
def Obligations.OnlyTheFrameLoadWritesTheBuffer : Prop :=
  ∀ s w rest, s.moves = .command w :: rest → ∃ t, step s = .next t ∧
    ((t.buf = s.buf ∧ t.n = s.n) ∨
      ∃ p, w.code = 0b01 ∧ validate w.line = .loaded p ∧ t.buf = frameOf p ∧ t.n.toNat = p.length)

/-! ## The named parameters of 00_scope.md R7, at any value

`step` and `exec` are `stepOver` and `execOver` at the default parameters (`step_eq_stepOver`, `exec_eq_execOver`); these
statements are about every other table, character set, layout and counter width (`w`, the width of the state). -/

/-- Whatever the CRC constants, the character set, the velocity layout, the polarity and the counter width, a DECODE of a line
that carries a frame completes, with the envelope over those constants and the groups over those parameters, and the frame's
class says the same. -/
def Obligations.FramesDecodeOverAnyConstants : Prop :=
  ∀ (P : Parameters) (line : Line) (p : Payload), validate line = .loaded p → ∀ (w : Nat) (s : State w), ∃ env fmt,
    execOver P (.decode line) s = .next (afterFrame s p env (groupsOver P (frameOf p) p.length)) ∧
    execOver P (classify p) s = execOver P (.decode line) s ∧
    EnvelopeOver P.crcTable fmt p env ∧ (fmt = .long112 ↔ byteNat p 0 / 8 ∈ [16, 17, 19, 20, 21])

/-- The identification classes answer the symbols of any 64-symbol character set. -/
def Obligations.CallsignOverAnyCharacterSet : Prop :=
  ∀ P : Parameters, P.charSet.length = 64 → ∀ c ∈ identClasses, ∀ p, WellFormed (c.1 p) →
    ∀ (w : Nat) (s : State w), ∃ env g e cs,
    execOver P (c.1 p) s = .next (afterFrame s p env g) ∧ EnvelopeOver P.crcTable c.2 p env ∧
    g.ca = none ∧ g.fs = none ∧ g.ac13 = none ∧ g.es = some e ∧ e.payload = .ident cs ∧
    ∀ k, k < 8 → cs[k]? = P.charSet[esBits p (40 + 6 * k) 6]?

/-- The ground-speed classes read their raw fields where any layout inside bytes 5 to 9 puts them, and take the heading with
any polarity; the ground speed is the floor of the root of the sum of squares (decision D17). -/
def Obligations.VelocityOverAnyLayout : Prop :=
  ∀ P : Parameters, Admitted P → ∀ c ∈ velGsClasses, ∀ p, WellFormed (c.1 p) →
    ∀ (w : Nat) (s : State w), ∃ env g e f,
    execOver P (c.1 p) s = .next (afterFrame s p env g) ∧ EnvelopeOver P.crcTable c.2 p env ∧
    g.ca = none ∧ g.fs = none ∧ g.ac13 = none ∧ g.es = some e ∧ e.payload = .velGs f ∧
    (f.ewDir = true ↔ esBits p P.velLayout.ewDir 1 = 1) ∧ f.ewSpeed.toNat = esBits p P.velLayout.ewSpeed 10 ∧
    (f.nsDir = true ↔ esBits p P.velLayout.nsDir 1 = 1) ∧ f.nsSpeed.toNat = esBits p P.velLayout.nsSpeed 10 ∧
    (f.vrSource = true ↔ esBits p P.velLayout.vrSource 1 = 1) ∧ (f.vrSign = true ↔ esBits p P.velLayout.vrSign 1 = 1) ∧
    f.vrMagnitude.toNat = esBits p P.velLayout.vrMagnitude 9 ∧
    f.groundSpeed.toNat ^ 2 ≤ f.nsSpeed.toNat ^ 2 + f.ewSpeed.toNat ^ 2 ∧
    f.nsSpeed.toNat ^ 2 + f.ewSpeed.toNat ^ 2 < (f.groundSpeed.toNat + 1) ^ 2 ∧
    f.heading = headingOf P.dirNeg f.ewDir f.ewSpeed f.nsDir f.nsSpeed

/-- One step of two blocks that differ in their constants alone, from one state: both complete, and differ at most in
`crc_calc`, `crc_valid`, the callsign and the ground-speed fields of an `OK` response, and in `crc_failures`; with the same CRC
constants, in the callsign and the ground-speed fields alone. -/
def Obligations.ConstantsReachOnlyTheirFields : Prop :=
  ∀ (P Q : Parameters) (w : Nat) (s : State w), ∃ t u, stepOver P s = .next t ∧ stepOver Q s = .next u ∧
    t.buf = u.buf ∧ t.n = u.n ∧ t.moves = u.moves ∧
    t.stat.framesSeen = u.stat.framesSeen ∧ t.stat.invalidFrames = u.stat.invalidFrames ∧
    (t.delivered = u.delivered ∨ ∃ r r', t.res = some r ∧ u.res = some r' ∧ t.delivered = s.delivered ++ [r] ∧
      u.delivered = s.delivered ++ [r']) ∧
    (P.crcTable = Q.crcTable → t.stat = u.stat) ∧
    (t.res = u.res ∨ ∃ env env' g g', t.res = some (.ok env g) ∧ u.res = some (.ok env' g') ∧
      env' = { env with crcCalc := env'.crcCalc, crcValid := env'.crcValid } ∧ (P.crcTable = Q.crcTable → env = env') ∧
      g.ca = g'.ca ∧ g.fs = g'.fs ∧ g.ac13 = g'.ac13 ∧
      (g.es = g'.es ∨ ∃ e e', g.es = some e ∧ g'.es = some e' ∧ e.metype = e'.metype ∧ e.mesub = e'.mesub ∧
        ((∃ cs cs', e.payload = .ident cs ∧ e'.payload = .ident cs') ∨
          (∃ f f', e.payload = .velGs f ∧ e'.payload = .velGs f'))))

/-- The three counters at any counter width `w`, over any constants: what each command and a reset does to them, an increment
staying at `2^w - 1`. The saturation is the spec's decision D10, the count before validation D28, the zeros of a reset D11. -/
def Obligations.CountersFollowCommandsAtAnyWidth : Prop :=
  ∀ (P : Parameters) (w : Nat) (s : State w),
    (∀ c rest, s.moves = .command c :: rest → ∃ t, stepOver P s = .next t ∧
      (c.code = 0b01 → t.stat.framesSeen.toNat = min (s.stat.framesSeen.toNat + 1) (2 ^ w - 1)) ∧
      (c.code = 0b01 → rejects c.line = true → t.stat.crcFailures = s.stat.crcFailures ∧
        t.stat.invalidFrames.toNat = min (s.stat.invalidFrames.toNat + 1) (2 ^ w - 1)) ∧
      (c.code = 0b01 → rejects c.line = false → t.stat.invalidFrames = s.stat.invalidFrames ∧
        ∃ env g, t.res = some (.ok env g) ∧ (env.crcValue = env.crcCalc → t.stat.crcFailures = s.stat.crcFailures) ∧
          (env.crcValue ≠ env.crcCalc →
            t.stat.crcFailures.toNat = min (s.stat.crcFailures.toNat + 1) (2 ^ w - 1))) ∧
      (c.code = 0b00 → t.stat = s.stat) ∧ (c.code = 0b10 → t.stat = s.stat ∧ t.res = some (.snapshot s.stat)) ∧
      (c.code = 0b11 → t.stat = ⟨0, 0, 0⟩)) ∧
    (∀ a rest, s.moves = .reset a :: rest → ∃ t, stepOver P s = .next t ∧ t.stat = ⟨0, 0, 0⟩)

/-- As long as no counter is full, a block with wider counters takes the same step: its next state is the narrower block's,
the counters in the wider registers. -/
def Obligations.WiderCountersTakeTheSameStep : Prop :=
  ∀ (P : Parameters) (w v : Nat), w ≤ v → ∀ s : State w,
    s.stat.framesSeen.toNat < 2 ^ w - 1 → s.stat.invalidFrames.toNat < 2 ^ w - 1 →
    s.stat.crcFailures.toNat < 2 ^ w - 1 →
    ∃ t, stepOver P s = .next t ∧ stepOver P (State.atWidth v s) = .next (State.atWidth v t)

/-- Two counter widths agree on every run with fewer than `2^w` DECODEs from zero counters, `w` being the narrower: the sentence
of 10_state.md R25 about an unbounded width, for every finite one. The saturation past it is decision D10. -/
def Obligations.WidthsAgreeOnShortRuns : Prop :=
  ∀ (P : Parameters) (w v : Nat), w ≤ v → ∀ (k : Nat) (s : State w),
    s.stat = ⟨0, 0, 0⟩ → s.moves.countP isDecode < 2 ^ w →
    ∃ t, (coreOver w P).run k s = .next t ∧ (coreOver v P).run k (State.atWidth v s) = .next (State.atWidth v t)
end

