-- ==== Sys2Proof/Laws/State.lean ====
section
/-! SUPPORT. One lemma per field per state update, each true by rfl. -/

namespace Sys2Proof.Machine

/-! ## The default parameters -/

@[simp] theorem parameters_crcTable : Config.parameters.crcTable = Config.crcTable := rfl

@[simp] theorem parameters_charSet : Config.parameters.charSet = Config.charSet := rfl

@[simp] theorem parameters_velLayout : Config.parameters.velLayout = Config.velLayout := rfl

@[simp] theorem parameters_dirNeg : Config.parameters.dirNeg = Config.dirNeg := rfl

@[simp] theorem groupsOver_parameters (B : FrameBuf) (N : Nat) : groupsOver Config.parameters B N = groupsOf B N := rfl

@[simp] theorem crcValidOver_crcTable (fmt : FrameFormat) (B : FrameBuf) :
    crcValidOver Config.crcTable fmt B = crcValid fmt B := rfl

@[simp] theorem crcOver_crcTable (fmt : FrameFormat) (B : FrameBuf) : crcOver Config.crcTable fmt B = crcCalc fmt B := rfl

/-! ## countFrame -/

@[simp] theorem countFrame_stat {w : Nat} (s : State w) : (countFrame s).stat = { s.stat with framesSeen := satInc s.stat.framesSeen } := rfl

@[simp] theorem countFrame_buf {w : Nat} (s : State w) : (countFrame s).buf = s.buf := rfl

@[simp] theorem countFrame_n {w : Nat} (s : State w) : (countFrame s).n = s.n := rfl

@[simp] theorem countFrame_res {w : Nat} (s : State w) : (countFrame s).res = s.res := rfl

@[simp] theorem countFrame_moves {w : Nat} (s : State w) : (countFrame s).moves = s.moves := rfl

@[simp] theorem countFrame_delivered {w : Nat} (s : State w) : (countFrame s).delivered = s.delivered := rfl

/-! ## countInvalid -/

@[simp] theorem countInvalid_stat {w : Nat} (s : State w) : (countInvalid s).stat = { s.stat with invalidFrames := satInc s.stat.invalidFrames } := rfl

@[simp] theorem countInvalid_buf {w : Nat} (s : State w) : (countInvalid s).buf = s.buf := rfl

@[simp] theorem countInvalid_n {w : Nat} (s : State w) : (countInvalid s).n = s.n := rfl

@[simp] theorem countInvalid_res {w : Nat} (s : State w) : (countInvalid s).res = s.res := rfl

@[simp] theorem countInvalid_moves {w : Nat} (s : State w) : (countInvalid s).moves = s.moves := rfl

@[simp] theorem countInvalid_delivered {w : Nat} (s : State w) : (countInvalid s).delivered = s.delivered := rfl

/-! ## countCrcFailure -/

@[simp] theorem countCrcFailure_stat {w : Nat} (s : State w) : (countCrcFailure s).stat = { s.stat with crcFailures := satInc s.stat.crcFailures } := rfl

@[simp] theorem countCrcFailure_buf {w : Nat} (s : State w) : (countCrcFailure s).buf = s.buf := rfl

@[simp] theorem countCrcFailure_n {w : Nat} (s : State w) : (countCrcFailure s).n = s.n := rfl

@[simp] theorem countCrcFailure_res {w : Nat} (s : State w) : (countCrcFailure s).res = s.res := rfl

@[simp] theorem countCrcFailure_moves {w : Nat} (s : State w) : (countCrcFailure s).moves = s.moves := rfl

@[simp] theorem countCrcFailure_delivered {w : Nat} (s : State w) : (countCrcFailure s).delivered = s.delivered := rfl

/-! ## clearCounters -/

@[simp] theorem clearCounters_stat {w : Nat} (s : State w) : (clearCounters s).stat = ⟨0, 0, 0⟩ := rfl

@[simp] theorem clearCounters_buf {w : Nat} (s : State w) : (clearCounters s).buf = s.buf := rfl

@[simp] theorem clearCounters_n {w : Nat} (s : State w) : (clearCounters s).n = s.n := rfl

@[simp] theorem clearCounters_res {w : Nat} (s : State w) : (clearCounters s).res = s.res := rfl

@[simp] theorem clearCounters_moves {w : Nat} (s : State w) : (clearCounters s).moves = s.moves := rfl

@[simp] theorem clearCounters_delivered {w : Nat} (s : State w) : (clearCounters s).delivered = s.delivered := rfl

/-! ## respond -/

@[simp] theorem respond_stat {w : Nat} (r : Response w) (s : State w) : (respond r s).stat = s.stat := rfl

@[simp] theorem respond_buf {w : Nat} (r : Response w) (s : State w) : (respond r s).buf = s.buf := rfl

@[simp] theorem respond_n {w : Nat} (r : Response w) (s : State w) : (respond r s).n = s.n := rfl

@[simp] theorem respond_res {w : Nat} (r : Response w) (s : State w) : (respond r s).res = some r := rfl

@[simp] theorem respond_moves {w : Nat} (r : Response w) (s : State w) : (respond r s).moves = s.moves := rfl

@[simp] theorem respond_delivered {w : Nat} (r : Response w) (s : State w) : (respond r s).delivered = s.delivered ++ [r] := rfl

/-! ## raiseError -/

@[simp] theorem raiseError_stat {w : Nat} (e : ValidationError) (s : State w) : (raiseError e s).stat = { s.stat with invalidFrames := satInc s.stat.invalidFrames } := rfl

@[simp] theorem raiseError_buf {w : Nat} (e : ValidationError) (s : State w) : (raiseError e s).buf = s.buf := rfl

@[simp] theorem raiseError_n {w : Nat} (e : ValidationError) (s : State w) : (raiseError e s).n = s.n := rfl

@[simp] theorem raiseError_res {w : Nat} (e : ValidationError) (s : State w) : (raiseError e s).res = some (.error e) := rfl

@[simp] theorem raiseError_moves {w : Nat} (e : ValidationError) (s : State w) : (raiseError e s).moves = s.moves := rfl

@[simp] theorem raiseError_delivered {w : Nat} (e : ValidationError) (s : State w) : (raiseError e s).delivered = s.delivered ++ [.error e] := rfl

/-! ## loadFrame -/

@[simp] theorem loadFrame_stat {w : Nat} (p : Payload) (s : State w) : (loadFrame p s).stat = s.stat := rfl

@[simp] theorem loadFrame_buf {w : Nat} (p : Payload) (s : State w) : (loadFrame p s).buf = frameOf p := rfl

@[simp] theorem loadFrame_n {w : Nat} (p : Payload) (s : State w) : (loadFrame p s).n = BitVec.ofNat 4 p.length := rfl

@[simp] theorem loadFrame_res {w : Nat} (p : Payload) (s : State w) : (loadFrame p s).res = s.res := rfl

@[simp] theorem loadFrame_moves {w : Nat} (p : Payload) (s : State w) : (loadFrame p s).moves = s.moves := rfl

@[simp] theorem loadFrame_delivered {w : Nat} (p : Payload) (s : State w) : (loadFrame p s).delivered = s.delivered := rfl

/-! ## afterReset -/

@[simp] theorem afterReset_stat {w : Nat} (s : State w) : (afterReset s).stat = ⟨0, 0, 0⟩ := rfl

@[simp] theorem afterReset_buf {w : Nat} (s : State w) : (afterReset s).buf = Vector.replicate 14 0 := rfl

@[simp] theorem afterReset_n {w : Nat} (s : State w) : (afterReset s).n = 0 := rfl

@[simp] theorem afterReset_res {w : Nat} (s : State w) : (afterReset s).res = none := rfl

@[simp] theorem afterReset_moves {w : Nat} (s : State w) : (afterReset s).moves = s.moves := rfl

@[simp] theorem afterReset_delivered {w : Nat} (s : State w) : (afterReset s).delivered = s.delivered := rfl

/-! ## atWidth -/

@[simp] theorem atWidth_stat {w : Nat} (v : Nat) (s : State w) : (State.atWidth v s).stat = Stat.atWidth v s.stat := rfl

@[simp] theorem atWidth_buf {w : Nat} (v : Nat) (s : State w) : (State.atWidth v s).buf = s.buf := rfl

@[simp] theorem atWidth_n {w : Nat} (v : Nat) (s : State w) : (State.atWidth v s).n = s.n := rfl

@[simp] theorem atWidth_res {w : Nat} (v : Nat) (s : State w) : (State.atWidth v s).res = s.res.map (Response.atWidth v) := rfl

@[simp] theorem atWidth_moves {w : Nat} (v : Nat) (s : State w) : (State.atWidth v s).moves = s.moves := rfl

@[simp] theorem atWidth_delivered {w : Nat} (v : Nat) (s : State w) : (State.atWidth v s).delivered = s.delivered.map (Response.atWidth v) := rfl

/-! ## presentTableWord -/

theorem presentTableWord_moves {cntW : Nat} (s : State cntW) (nbits w : Nat) :
    (presentTableWord s nbits w).moves = .command (tableCommand nbits w) :: s.moves := rfl

/-- Presenting a table word changes the moves alone. -/
theorem presentTableWord_rest {cntW : Nat} (s : State cntW) (nbits w : Nat) :
    presentTableWord s nbits w = { s with moves := (presentTableWord s nbits w).moves } := rfl

end Sys2Proof.Machine
end

