-- ==== Sys2Proof/Laws/Frame.lean ====
section
/-! SUPPORT. The frame buffer after a load: its bytes, its format fields, the 40-bit head the table rows test. -/

namespace Sys2Proof

/-- Every byte the load leaves, in and past the payload, in and past the buffer. -/
theorem byte_frameOf (p : Payload) (i : Nat) : (frameOf p).byte i = if i < 14 then p.getD i 0 else 0 := by
  unfold FrameBuf.byte frameOf
  by_cases h : i < 14
  · simp [h]
  · simp [h]

/-- A byte inside the buffer. -/
theorem byte_frameOf_lt (p : Payload) {i : Nat} (h : i < 14) : (frameOf p).byte i = p.getD i 0 := by
  simp [byte_frameOf, h]

/-- A register past the payload reads zero. -/
theorem byte_frameOf_past (p : Payload) {i : Nat} (h : p.length ≤ i) : (frameOf p).byte i = 0 := by
  rw [byte_frameOf]
  split
  · exact List.getD_eq_default _ _ h
  · rfl

/-- Two buffers with the same 14 bytes are the same buffer. -/
theorem frame_ext {A B : FrameBuf} (h : ∀ i, i < 14 → A.byte i = B.byte i) : A = B := by
  apply Vector.ext
  intro i hi
  have := h i hi
  simpa [FrameBuf.byte, hi] using this

/-- `downlink_format` as a number. -/
theorem downlinkFormat_toNat (B : FrameBuf) : (downlinkFormat B).toNat = (B.byte 0).toNat / 8 := by
  have := (B.byte 0).isLt
  simp [downlinkFormat, BitVec.extractLsb, BitVec.extractLsb'_toNat, Nat.shiftRight_eq_div_pow]
  omega

/-- `metype` as a number. -/
theorem metype_toNat (B : FrameBuf) : (metype B).toNat = (B.byte 4).toNat / 8 := by
  have := (B.byte 4).isLt
  simp [metype, BitVec.extractLsb, BitVec.extractLsb'_toNat, Nat.shiftRight_eq_div_pow]
  omega

/-- `mesub` as a number. -/
theorem mesub_toNat (B : FrameBuf) : (mesub B).toNat = (B.byte 4).toNat % 8 := by
  simp [mesub, BitVec.extractLsb, BitVec.extractLsb'_toNat]

/-- `downlink_format` is the top five bits of the 40-bit head. -/
theorem downlinkFormat_head (p : Payload) : downlinkFormat (frameOf p) = (head40 p).extractLsb' 35 5 := by
  unfold downlinkFormat head40
  rw [byte_frameOf_lt p (by decide)]
  ext i hi
  simp only [BitVec.extractLsb, BitVec.getElem_extractLsb', BitVec.getLsbD_append]
  interval_cases i <;> simp

/-- `metype` is bits 7 to 3 of the 40-bit head. -/
theorem metype_head (p : Payload) : metype (frameOf p) = (head40 p).extractLsb' 3 5 := by
  unfold metype head40
  rw [byte_frameOf_lt p (by decide)]
  ext i hi
  simp only [BitVec.extractLsb, BitVec.getElem_extractLsb', BitVec.getLsbD_append]
  interval_cases i <;> simp

/-- `mesub` is bits 2 to 0 of the 40-bit head. -/
theorem mesub_head (p : Payload) : mesub (frameOf p) = (head40 p).extractLsb' 0 3 := by
  unfold mesub head40
  rw [byte_frameOf_lt p (by decide)]
  ext i hi
  simp only [BitVec.extractLsb, BitVec.getElem_extractLsb', BitVec.getLsbD_append]
  interval_cases i <;> simp

/-- A field of a masked word is the field of the word, when the mask has the field's bits. -/
theorem extract_masked {w : Nat} (x m v : BitVec w) (h : x &&& m = v) (start len : Nat)
    (hm : m.extractLsb' start len = BitVec.allOnes len) :
    x.extractLsb' start len = v.extractLsb' start len := by
  subst h
  ext i hi
  have := congrArg (fun b : BitVec len => b.getLsbD i) hm
  simp [hi] at this
  simp [this]

end Sys2Proof
end

