-- ==== Sys2Proof/Laws/Validate.lean ====
section
/-! SUPPORT. The Frame Validator: digits, pairs, the four verdicts, and the line the encoder writes. -/

namespace Sys2Proof

/-- `hexval` reads the digit the encoder writes. -/
@[simp] theorem hexval_hexDigit (v : BitVec 4) : hexval (hexDigit v) = some v := by
  revert v; decide

/-- A character has a value exactly when it is a hex digit. -/
theorem hexval_isSome (c : Byte) : (hexval c).isSome = isHexDigit c := by
  unfold hexval isHexDigit
  split
  · simp_all
  · split
    · simp_all
    · split <;> simp_all

/-- The two digits of a byte make the byte. -/
theorem nibbles_append (b : Byte) : (b.extractLsb 7 4 ++ b.extractLsb 3 0 : Byte) = b := by
  ext i hi
  rw [← BitVec.getLsbD_eq_getElem, BitVec.getLsbD_append]
  interval_cases i <;> simp [BitVec.extractLsb]

/-- The pairs the encoder writes read back as the payload. -/
theorem hexPairs_digits (p : Payload) :
    hexPairs (p.flatMap fun b => [hexDigit (b.extractLsb 7 4), hexDigit (b.extractLsb 3 0)]) = some p := by
  induction p with
  | nil => rfl
  | cons b p ih => simpa [hexPairs, ih] using nibbles_append b

/-- A pair of digits gives one byte: the payload is half as long as its characters, all of them hex digits. -/
theorem hexPairs_some : ∀ {cs : List Byte} {p : Payload}, hexPairs cs = some p →
    cs.length = 2 * p.length ∧ cs.all isHexDigit = true := by
  intro cs
  induction cs using hexPairs.induct with
  | case1 => intro p h; simp_all [hexPairs]
  | case2 => intro p h; simp [hexPairs] at h
  | case3 a b rest h1 l1 bs hr hb ha ih =>
    intro p h
    simp [hexPairs, ha, hb, hr] at h
    subst h
    obtain ⟨e1, e2⟩ := ih hr
    have ea : isHexDigit a = true := by rw [← hexval_isSome, ha]; rfl
    have eb : isHexDigit b = true := by rw [← hexval_isSome, hb]; rfl
    simp [e1, e2, ea, eb]; omega
  | case4 a b rest hne ih =>
    intro p h
    unfold hexPairs at h
    split at h
    · rename_i x y z hx hy hz
      exact absurd hz (hne x y z hx hy)
    · cases h

/-- An even run of hex digits has a payload. -/
theorem hexPairs_isSome : ∀ {cs : List Byte}, cs.length % 2 = 0 → cs.all isHexDigit = true → (hexPairs cs).isSome = true := by
  intro cs
  induction cs using hexPairs.induct with
  | case1 => intros; rfl
  | case2 => intro h; simp at h
  | case3 a b rest h1 l1 bs hr hb ha ih => intros; simp [hexPairs, ha, hb, hr]
  | case4 a b rest hne ih =>
    intro hl hd
    simp only [List.all_cons, Bool.and_eq_true] at hd
    obtain ⟨ea, eb, er⟩ := hd
    rw [← hexval_isSome] at ea eb
    obtain ⟨x, hx⟩ := Option.isSome_iff_exists.1 ea
    obtain ⟨y, hy⟩ := Option.isSome_iff_exists.1 eb
    obtain ⟨z, hz⟩ := Option.isSome_iff_exists.1 (ih (by simp at hl; omega) er)
    exact absurd hz (hne x y z hx hy)

/-- A line with both delimiters has the form `* payload ;`. -/
theorem delimited {s : Line} (h0 : s.length ≠ 0) (h1 : s.head? = some starChar) (h2 : s.getLast? = some semiChar) :
    ∃ pay, s = starChar :: pay ++ [semiChar] := by
  obtain ⟨a, s, rfl⟩ : ∃ a t, s = a :: t := by
    cases s with
    | nil => simp at h0
    | cons a t => exact ⟨a, t, rfl⟩
  simp at h1
  subst h1
  rcases List.eq_nil_or_concat s with rfl | ⟨pay, b, rfl⟩
  · simp [starChar, semiChar] at h2
  · refine ⟨pay, ?_⟩
    have : b = semiChar := by simpa [List.getLast?_cons] using h2
    simp [this]

/-- A line that is not `* payload ;` is `Invalid` (40_frame_validator.md R121). -/
theorem validate_undelimited {s : Line} (h : ∀ pay, s ≠ starChar :: pay ++ [semiChar]) : validate s = .raised .invalid := by
  unfold validate
  rw [if_pos]
  by_contra hc
  simp only [not_or, not_not] at hc
  obtain ⟨pay, hp⟩ := delimited hc.1 hc.2.1 hc.2.2
  exact h pay hp

/-- The verdict on a delimited line, from its payload characters alone (40_frame_validator.md R122 to R126). -/
theorem validate_delimited (pay : List Byte) :
    validate (starChar :: pay ++ [semiChar]) =
      if pay.length ≤ 1 then .raised .tooShort
      else if pay.length > 28 then .raised .tooLong
      else if pay.length % 2 = 1 then .raised .invalid
      else match hexPairs pay with
        | none => .raised .invalid
        | some p => .loaded p := by
  have hl : (starChar :: pay ++ [semiChar]).length - 2 = pay.length := by simp
  have hd : (starChar :: pay ++ [semiChar]).tail.dropLast = pay := by simp
  unfold validate
  rw [if_neg (by simp [List.getLast?_cons]), hl, hd]
  rfl

/-- A loaded payload has 1 to 14 bytes, and its line is `* payload ;` with two digits a byte. -/
theorem validate_loaded {s : Line} {p : Payload} (h : validate s = .loaded p) :
    1 ≤ p.length ∧ p.length ≤ 14 ∧ ∃ pay, s = starChar :: pay ++ [semiChar] ∧ hexPairs pay = some p := by
  by_cases hs : ∃ pay, s = starChar :: pay ++ [semiChar]
  · obtain ⟨pay, rfl⟩ := hs
    rw [validate_delimited] at h
    split at h
    · cases h
    split at h
    · cases h
    split at h
    · cases h
    cases hp : hexPairs pay with
    | none => simp [hp] at h
    | some q =>
      simp [hp] at h
      subst h
      have := (hexPairs_some hp).1
      exact ⟨by omega, by omega, pay, rfl, hp⟩
  · rw [validate_undelimited fun pay hp => hs ⟨pay, hp⟩] at h
    cases h

/-- The line the encoder writes for a payload of 1 to 14 bytes is loaded as that payload. -/
theorem validate_lineOf {p : Payload} (h1 : 1 ≤ p.length) (h2 : p.length ≤ 14) : validate (lineOf p) = .loaded p := by
  unfold lineOf
  rw [validate_delimited, hexPairs_digits]
  have hl : (p.flatMap fun b => [hexDigit (b.extractLsb 7 4), hexDigit (b.extractLsb 3 0)]).length = 2 * p.length := by
    simp [List.length_flatMap]; omega
  rw [hl, if_neg (by omega), if_neg (by omega), if_neg (by omega)]

/-- The validator loads exactly the well-formed lines of 30_encoding.md R80. -/
theorem validate_loaded_iff (s : Line) : (∃ p, validate s = .loaded p) ↔ isWireLine s = true := by
  by_cases hs : ∃ pay, s = starChar :: pay ++ [semiChar]
  · obtain ⟨pay, rfl⟩ := hs
    have hw : isWireLine (starChar :: pay ++ [semiChar]) = true ↔
        2 ≤ pay.length ∧ pay.length ≤ 28 ∧ pay.length % 2 = 0 ∧ pay.all isHexDigit = true := by
      simp only [isWireLine, Bool.and_eq_true, decide_eq_true_eq, beq_iff_eq]
      simp [starChar, semiChar, List.getLast?_cons]
      constructor
      · rintro ⟨⟨⟨h1, h2⟩, h3⟩, h4⟩
        exact ⟨by omega, by omega, by omega, h4⟩
      · rintro ⟨h1, h2, h3, h4⟩
        exact ⟨⟨⟨by omega, by omega⟩, by omega⟩, h4⟩
    rw [hw]
    constructor
    · rintro ⟨p, hp⟩
      obtain ⟨h1, h2, pay', he, hpp⟩ := validate_loaded hp
      have : pay = pay' := by simpa using he
      subst this
      obtain ⟨e1, e2⟩ := hexPairs_some hpp
      exact ⟨by omega, by omega, by omega, e2⟩
    · rintro ⟨h1, h2, h3, h4⟩
      obtain ⟨p, hp⟩ := Option.isSome_iff_exists.1 (hexPairs_isSome h3 h4)
      refine ⟨p, ?_⟩
      rw [validate_delimited, hp, if_neg (by omega), if_neg (by omega), if_neg (by omega)]
  · have hn : isWireLine s = false := by
      by_contra hc
      simp only [isWireLine, Bool.not_eq_false, Bool.and_eq_true, decide_eq_true_eq, beq_iff_eq] at hc
      exact hs (delimited (by omega) hc.1.1.1.1.1 hc.1.1.1.1.2)
    rw [hn]
    simp [validate_undelimited fun pay hp => hs ⟨pay, hp⟩]

end Sys2Proof
end

