-- ==== Sys2Proof/Laws/Ops.lean ====
section
/-! SUPPORT. What the shared operations can do: the counters as numbers, the accepted frame, what a step finds at the port,
and the step's own case analysis. -/

namespace Sys2Proof.Machine

/-- The saturating increment as a number, at every width (10_state.md R25). -/
theorem satInc_toNat {w : Nat} (c : BitVec w) : (satInc c).toNat = min (c.toNat + 1) (2 ^ w - 1) := by
  have hc := c.isLt
  unfold satInc
  split
  · subst c; simp
  · rename_i h
    have hne : c.toNat ≠ 2 ^ w - 1 := fun he => h (BitVec.eq_of_toNat_eq (by simp [he]))
    rcases w with _ | w
    · simp at hc hne
      omega
    · have h1 : (1 : BitVec (w + 1)).toNat = 1 := by simp
      rw [BitVec.toNat_add, h1, Nat.mod_eq_of_lt (by omega)]
      omega

/-- A counter never falls by an increment. -/
theorem le_satInc_toNat {w : Nat} (c : BitVec w) : c.toNat ≤ (satInc c).toNat := by
  have := c.isLt
  rw [satInc_toNat]
  omega

/-- The state after a frame's stages, field by field. -/
theorem runStages_eq {w : Nat} (P : Parameters) (fmt : FrameFormat) (groups : FrameBuf → Nat → Groups) (s : State w) :
    runStages P fmt groups s =
      { s with
        stat := { s.stat with
          crcFailures := if crcValidOver P.crcTable fmt s.buf then s.stat.crcFailures else satInc s.stat.crcFailures }
        res := some (.ok (envelope P fmt s.buf s.n) (groups s.buf s.n.toNat))
        delivered := s.delivered ++ [.ok (envelope P fmt s.buf s.n) (groups s.buf s.n.toNat)] } := by
  unfold runStages
  split <;> rfl

/-- The payload length the load leaves, for a payload that fits. -/
theorem payloadLength_toNat {p : Payload} (h : p.length ≤ 14) : (BitVec.ofNat 4 p.length).toNat = p.length := by
  rw [BitVec.toNat_ofNat]
  omega

/-- An accepted frame answers this state, and nothing else. -/
theorem acceptFrame_eq {w : Nat} (P : Parameters) (fmt : FrameFormat) (groups : FrameBuf → Nat → Groups) (p : Payload)
    (s : State w) (h : p.length ≤ 14) :
    acceptFrame P fmt groups p s = .next (afterFrame s p (envelope P fmt (frameOf p) (BitVec.ofNat 4 p.length))
      (groups (frameOf p) p.length)) := by
  unfold acceptFrame
  rw [runStages_eq]
  simp only [loadFrame_buf, loadFrame_n, payloadLength_toNat h]
  rfl

/-- What a DECODE of a rejected line answers, whatever the parameters. -/
theorem execDecodeOver_raised {w : Nat} {line : Line} {e : ValidationError} (h : validate line = .raised e) (P : Parameters)
    (s : State w) : execDecodeOver P line s = .next (raiseError e (countFrame s)) := by
  simp [execDecodeOver, h]

/-- What a DECODE of a line that carries a frame answers over any parameters. -/
theorem execDecodeOver_loaded {w : Nat} {line : Line} {p : Payload} (h : validate line = .loaded p) (P : Parameters)
    (s : State w) :
    execDecodeOver P line s = acceptFrame P (formatOf (downlinkFormat (frameOf p))) (groupsOver P) p s := by
  simp [execDecodeOver, h]

/-- What a DECODE of a rejected line answers. -/
theorem execDecode_raised {line : Line} {e : ValidationError} (h : validate line = .raised e) (s : State) :
    execDecode line s = .next (raiseError e (countFrame s)) := execDecodeOver_raised h Config.parameters s

/-- What a DECODE of a line that carries a frame answers. -/
theorem execDecode_loaded {line : Line} {p : Payload} (h : validate line = .loaded p) (s : State) :
    execDecode line s = acceptFrame Config.parameters (formatOf (downlinkFormat (frameOf p))) groupsOf p s :=
  execDecodeOver_loaded h Config.parameters s

/-- What a command word decodes to, by its code and its line. -/
theorem decode_cases (w : CommandWord) :
    (w.code = 0b00 ∧ decode w = .nop) ∨ (w.code = 0b10 ∧ decode w = .statsRead) ∨
    (w.code = 0b11 ∧ decode w = .statsReset) ∨
    (w.code = 0b01 ∧ ∃ p, validate w.line = .loaded p ∧ decode w = classify p) ∨
    (w.code = 0b01 ∧ ∃ e, validate w.line = .raised e ∧ decode w = .decode w.line) := by
  obtain ⟨code, line⟩ := w
  have hc : code = 0 ∨ code = 1 ∨ code = 2 ∨ code = 3 := by revert code; decide
  rcases hc with rfl | rfl | rfl | rfl
  · exact .inl ⟨rfl, rfl⟩
  · refine .inr (.inr (.inr ?_))
    cases h : validate line with
    | loaded p => exact .inl ⟨rfl, p, rfl, by simp [decode, h]⟩
    | raised e => exact .inr ⟨rfl, e, rfl, by simp [decode, h]⟩
  · exact .inr (.inl ⟨rfl, rfl⟩)
  · exact .inr (.inr (.inl ⟨rfl, rfl⟩))

/-! ## The parameters -/

/-- The meanings are those over the parameters, at the defaults (10_state.md R33). -/
theorem exec_eq_execOver (i : Instr) (s : State) : exec i s = execOver Config.parameters i s := by
  cases i <;> rfl

/-- The step is the step function at the default parameters (10_state.md R33). -/
theorem step_eq_stepOver (s : State) : step s = stepOver Config.parameters s := by
  unfold step stepOver
  rw [show exec = execOver Config.parameters from funext fun i => funext (exec_eq_execOver i)]

/-- The machine behind the host's interface is the one at the default width and parameters. -/
theorem core_eq_coreOver : core = coreOver Config.cntW Config.parameters := by
  unfold core coreOver State.reset
  rw [show step = stepOver Config.parameters from funext step_eq_stepOver]

/-! ## The step -/

/-- What a step that answers a next state did: nothing, a reset, or one whole command. -/
theorem stepBy_cases {w : Nat} {run : Instr → State w → Host.Outcome (State w) Fault Refusal} {s t : State w}
    (h : stepBy run s = .next t) :
    (s.moves = [] ∧ t = s) ∨
    (∃ a rest, s.moves = .reset a :: rest ∧ t = afterReset { s with moves := rest }) ∨
    (∃ w rest, s.moves = .command w :: rest ∧ run (decode w) { s with moves := rest } = .next t) := by
  unfold stepBy fetch at h
  split at h <;> rename_i hf
  · split at hf <;> cases hf
    cases h
    exact .inl ⟨‹_›, rfl⟩
  · split at hf <;> cases hf
    cases h
    exact .inr (.inl ⟨_, _, ‹_›, rfl⟩)
  · split at hf <;> cases hf
    exact .inr (.inr ⟨_, _, ‹_›, h⟩)

/-- What a step that answers a next state did, over any parameters. -/
theorem stepOver_cases {w : Nat} {P : Parameters} {s t : State w} (h : stepOver P s = .next t) :
    (s.moves = [] ∧ t = s) ∨
    (∃ a rest, s.moves = .reset a :: rest ∧ t = afterReset { s with moves := rest }) ∨
    (∃ w rest, s.moves = .command w :: rest ∧ execOver P (decode w) { s with moves := rest } = .next t) :=
  stepBy_cases h

/-- What a step of the block that answers a next state did. -/
theorem step_cases {s t : State} (h : step s = .next t) :
    (s.moves = [] ∧ t = s) ∨
    (∃ a rest, s.moves = .reset a :: rest ∧ t = afterReset { s with moves := rest }) ∨
    (∃ w rest, s.moves = .command w :: rest ∧ exec (decode w) { s with moves := rest } = .next t) :=
  stepBy_cases h

/-- A run goes on from the state its first step answers. -/
theorem run_succ (M : Host.Core) {k : Nat} {s t : M.State} (h : M.step s = .next t) : M.run (k + 1) s = M.run k t := by
  simp [Host.Core.run, h]

/-- A run that answers a state goes on from it. -/
theorem run_add (M : Host.Core) (a b : Nat) {s t : M.State} (h : M.run a s = .next t) : M.run (a + b) s = M.run b t := by
  induction a generalizing s with
  | zero => cases h; simp
  | succ a ih =>
    rw [show a + 1 + b = (a + b) + 1 by omega]
    rw [Host.Core.run] at h ⊢
    split at h
    · exact ih h
    · cases h
    · cases h

end Sys2Proof.Machine
end

