-- ==== Sys2Proof/Laws/Crc.lean ====
section
/-! SUPPORT. The checksum loop as a sum: one term a message bit, the sum independent of its starting value, the message bits
of a loaded payload. -/

namespace Sys2Proof.Machine

/-- What message bit `j` adds to the checksum. -/
def crcTerm (T : List Crc24) (offset : Nat) (B : FrameBuf) (j : Nat) : Crc24 :=
  if messageBit B j then tableEntry T (j + offset) else 0

/-- One turn of the loop adds the bit's term. -/
theorem crcTurn_eq (T : List Crc24) (offset : Nat) (B : FrameBuf) (acc : Crc24) (j : Nat) :
    crcTurn T offset B acc j = acc ^^^ crcTerm T offset B j := by
  unfold crcTurn crcTerm
  split <;> simp

/-- The loop from any start is the start plus the loop from zero. -/
theorem crcFold_start (T : List Crc24) (offset : Nat) (B : FrameBuf) (l : List Nat) (acc : Crc24) :
    l.foldl (crcTurn T offset B) acc = acc ^^^ l.foldl (crcTurn T offset B) 0 := by
  induction l generalizing acc with
  | nil => simp
  | cons j l ih =>
    simp only [List.foldl_cons, crcTurn_eq]
    rw [ih, ih (0 ^^^ _)]
    simp [BitVec.xor_assoc]

/-- The loop over two runs of bits is the sum of the two loops. -/
theorem crcFold_append (T : List Crc24) (offset : Nat) (B : FrameBuf) (l l' : List Nat) :
    (l ++ l').foldl (crcTurn T offset B) 0 =
      l.foldl (crcTurn T offset B) 0 ^^^ l'.foldl (crcTurn T offset B) 0 := by
  rw [List.foldl_append, crcFold_start]

/-- Two frames whose terms agree on a run of bits have the same loop over it. -/
theorem crcFold_congr {T : List Crc24} {offset : Nat} {A B : FrameBuf} {l : List Nat}
    (h : ∀ j ∈ l, crcTerm T offset A j = crcTerm T offset B j) (acc : Crc24) :
    l.foldl (crcTurn T offset A) acc = l.foldl (crcTurn T offset B) acc := by
  induction l generalizing acc with
  | nil => rfl
  | cons j l ih =>
    simp only [List.foldl_cons, crcTurn_eq, h j (by simp)]
    exact ih (fun k hk => h k (by simp [hk])) _

/-- A run of bits whose terms are zero adds nothing. -/
theorem crcFold_zero {T : List Crc24} {offset : Nat} {B : FrameBuf} {l : List Nat}
    (h : ∀ j ∈ l, crcTerm T offset B j = 0) : l.foldl (crcTurn T offset B) 0 = 0 := by
  induction l with
  | nil => rfl
  | cons j l ih =>
    simp only [List.foldl_cons, crcTurn_eq, h j (by simp)]
    simpa using ih fun k hk => h k (by simp [hk])

/-- Message bit `j` of a loaded payload. -/
theorem messageBit_frameOf (p : Payload) {j : Nat} (h : j < 112) :
    messageBit (frameOf p) j = (p.getD (j / 8) 0).getLsbD (7 - j % 8) := by
  unfold messageBit
  rw [byte_frameOf_lt p (by omega)]

/-- Message bit `j` of the bytewise sum of two frames. -/
theorem messageBit_xor (X Y : FrameBuf) {j : Nat} (h : j < 112) :
    messageBit (X.zipWith (· ^^^ ·) Y) j = (messageBit X j ^^ messageBit Y j) := by
  have hb : j / 8 < 14 := by omega
  unfold messageBit FrameBuf.byte
  simp [hb]

end Sys2Proof.Machine
end

