-- ==== Sys2Proof/Laws/Operands.lean ====
section
/-! SUPPORT. The fields as numbers: one lemma per field read, in the arithmetic forms of 30_encoding.md section 3. -/

namespace Sys2Proof.Machine

/-- Concatenation as arithmetic, the left part more significant (00_scope.md R11). -/
theorem toNat_cat {m n : Nat} (a : BitVec m) (b : BitVec n) : (a ++ b).toNat = a.toNat * 2 ^ n + b.toNat := by
  rw [BitVec.toNat_append, ← Nat.shiftLeft_add_eq_or_of_lt b.isLt, Nat.shiftLeft_eq]

/-- A slice as arithmetic: `B[i][hi:lo] = (B[i] >> lo) mod 2^(hi-lo+1)` (00_scope.md R9). -/
theorem toNat_slice (b : Byte) (hi lo : Nat) : (b.extractLsb hi lo).toNat = b.toNat / 2 ^ lo % 2 ^ (hi - lo + 1) := by
  simp only [BitVec.extractLsb, BitVec.extractLsb'_toNat, Nat.shiftRight_eq_div_pow]

/-- A bit as arithmetic. -/
theorem bit_iff (b : Byte) (i : Nat) : b.getLsbD i = true ↔ b.toNat / 2 ^ i % 2 = 1 := by
  rw [← BitVec.testBit_toNat, Nat.testBit_eq_decide_div_mod_eq]
  simp

variable (B : FrameBuf)

theorem address_toNat : (address B).toNat = (B.byte 1).toNat * 65536 + (B.byte 2).toNat * 256 + (B.byte 3).toNat := by
  unfold address
  rw [toNat_cat, toNat_cat]
  omega

theorem capabilityCode_toNat : (capabilityCode B).toNat = (B.byte 0).toNat % 8 := by
  have := toNat_slice (B.byte 0) 2 0
  unfold capabilityCode
  omega

theorem flightStatus_toNat : (flightStatus B).toNat = (B.byte 0).toNat % 8 := capabilityCode_toNat B

theorem downlinkRequest_toNat : (downlinkRequest B).toNat = (B.byte 1).toNat / 8 := by
  have h := toNat_slice (B.byte 1) 7 3
  have := (B.byte 1).isLt
  unfold downlinkRequest
  omega

theorem utilityMessage_toNat : (utilityMessage B).toNat = ((B.byte 1).toNat % 8) * 8 + (B.byte 2).toNat / 32 := by
  have h1 := toNat_slice (B.byte 1) 2 0
  have h2 := toNat_slice (B.byte 2) 7 5
  have := (B.byte 2).isLt
  unfold utilityMessage
  rw [toNat_cat]
  omega

theorem ac13N_toNat : (ac13N B).toNat = ((B.byte 2).toNat % 32) * 64 + ((B.byte 3).toNat / 128) * 32
    + ((B.byte 3).toNat / 32 % 2) * 16 + (B.byte 3).toNat % 16 := by
  have h1 := toNat_slice (B.byte 2) 4 0
  have h2 := toNat_slice (B.byte 3) 7 7
  have h3 := toNat_slice (B.byte 3) 5 5
  have h4 := toNat_slice (B.byte 3) 3 0
  have := (B.byte 3).isLt
  unfold ac13N
  rw [toNat_cat, toNat_cat, toNat_cat]
  omega

theorem ac12N_toNat : (ac12N B).toNat = ((B.byte 5).toNat / 2) * 16 + (B.byte 6).toNat / 16 := by
  have h1 := toNat_slice (B.byte 5) 7 1
  have h2 := toNat_slice (B.byte 6) 7 4
  have := (B.byte 5).isLt
  have := (B.byte 6).isLt
  unfold ac12N
  rw [toNat_cat]
  omega

theorem rawLatitude_toNat : (rawLatitude B).toNat =
    ((B.byte 6).toNat % 4) * 32768 + (B.byte 7).toNat * 128 + (B.byte 8).toNat / 2 := by
  have h1 := toNat_slice (B.byte 6) 1 0
  have h2 := toNat_slice (B.byte 8) 7 1
  have := (B.byte 8).isLt
  unfold rawLatitude
  rw [toNat_cat, toNat_cat]
  omega

theorem rawLongitude_toNat : (rawLongitude B).toNat =
    ((B.byte 8).toNat % 2) * 65536 + (B.byte 9).toNat * 256 + (B.byte 10).toNat := by
  have h1 := toNat_slice (B.byte 8) 0 0
  unfold rawLongitude
  rw [toNat_cat, toNat_cat]
  omega

theorem headingRaw_toNat : (headingRaw B).toNat = ((B.byte 5).toNat % 4) * 32 + (B.byte 6).toNat / 8 := by
  have h1 := toNat_slice (B.byte 5) 1 0
  have h2 := toNat_slice (B.byte 6) 7 3
  have := (B.byte 6).isLt
  unfold headingRaw
  rw [toNat_cat]
  omega

theorem crcValue_toNat (fmt : FrameFormat) : (crcValue fmt B).toNat =
    (B.byte (formatBytes fmt - 3)).toNat * 65536 + (B.byte (formatBytes fmt - 2)).toNat * 256
      + (B.byte (formatBytes fmt - 1)).toNat := by
  unfold crcValue
  rw [toNat_cat, toNat_cat]
  omega

/-- Message bit `j` is bit `j` of the whole message, from its most significant end. -/
theorem messageBit_eq {j : Nat} (h : j < 112) : messageBit B j = (message B).getLsbD (111 - j) := by
  unfold messageBit message
  have hj : j = 8 * (j / 8) + j % 8 := by omega
  have h8 : j % 8 < 8 := Nat.mod_lt _ (by decide)
  have hq : j / 8 < 14 := by omega
  generalize j / 8 = q at hj hq ⊢
  generalize j % 8 = r at hj h8 ⊢
  subst hj
  interval_cases q <;> simp only [BitVec.getLsbD_append] <;> interval_cases r <;> rfl

/-- Bit `i` of a message field is the message bit `width - 1 - i` after its first. -/
theorem messageField_getLsbD (lo width i : Nat) (hi : i < width) (h : lo + width ≤ 112) :
    (messageField B lo width).getLsbD i = messageBit B (lo + width - 1 - i) := by
  rw [messageBit_eq B (by omega)]
  simp only [messageField, BitVec.getLsbD_extractLsb', hi, decide_true, Bool.true_and]
  congr 1
  omega

/-- The search for the root: from a root so far whose square is not above `v`, and whose next `2^b`-th is. -/
theorem isqrtFrom_spec (v : Nat) : ∀ b q, q * q ≤ v → v < (q + 2 ^ b) * (q + 2 ^ b) →
    isqrtFrom v b q * isqrtFrom v b q ≤ v ∧ v < (isqrtFrom v b q + 1) * (isqrtFrom v b q + 1) := by
  intro b
  induction b with
  | zero => intro q h1 h2; exact ⟨h1, h2⟩
  | succ b ih =>
    intro q h1 h2
    unfold isqrtFrom
    split
    · rename_i h
      exact ih _ h (by rwa [show q + 2 ^ b + 2 ^ b = q + 2 ^ (b + 1) by rw [Nat.pow_succ]; omega])
    · rename_i h
      exact ih _ h1 (Nat.lt_of_not_le h)

/-- `isqrt` is the floor of the square root of every sum of two 10-bit squares (43_extended_squitter.md R225). -/
theorem isqrt_spec {v : Nat} (h : v < 4194304) : isqrt v * isqrt v ≤ v ∧ v < (isqrt v + 1) * (isqrt v + 1) :=
  isqrtFrom_spec v 11 0 (by omega) (by omega)

end Sys2Proof.Machine
end

