-- ==== Sys2Proof/Laws/Heading.lean ====
section
/-! SUPPORT. The integer rays of the heading against the true directions: the heading is blind to a vector's length, the rows
of the tangent table are near enough, and so each ray's integer test has the sign of the real one. -/

namespace Sys2Proof.Machine

/-! ## Scale -/

/-- A sector holds a vector exactly when it holds the vector's positive multiples. -/
theorem inSector_scale (k c : ℕ) (hc : 0 < c) (v : Vec) : inSector k ⟨c * v.e, c * v.s⟩ = inSector k v := by
  have h : ∀ r : Vec, cross r ⟨c * v.e, c * v.s⟩ = c * cross r v := fun r => by simp only [cross]; ring
  have hc' : (0 : Int) < c := by exact_mod_cast hc
  have h1 : (0 ≤ (c : Int) * cross (ray k) v) ↔ 0 ≤ cross (ray k) v := mul_nonneg_iff_of_pos_left hc'
  have h2 : ((c : Int) * cross (ray (k + 1)) v < 0) ↔ cross (ray (k + 1)) v < 0 := by
    rw [← not_le, ← not_le, not_iff_not]
    exact mul_nonneg_iff_of_pos_left hc'
  simp only [inSector, h, h1, h2]

/-- The heading of a vector is that of its positive multiples. -/
theorem headingDegrees_scale (c : ℕ) (hc : 0 < c) (v : Vec) :
    headingDegrees ⟨c * v.e, c * v.s⟩ = headingDegrees v := by
  unfold headingDegrees
  congr 2
  funext k
  exact inSector_scale k c hc v

/-! ## The table against the tangent -/

/-- The fifth Taylor polynomials of cosine and sine, for angles of at most a degree. -/
theorem sinCos_small {x : ℝ} (hp : 0 < x) (hs : x ≤ 175 / 10000) :
    |Real.cos x - (1 - x ^ 2 / 2 + x ^ 4 / 24)| ≤ 1 / 10 ^ 12 ∧
      |Real.sin x - (x - x ^ 3 / 6 + x ^ 5 / 120)| ≤ 1 / 10 ^ 12 := by
  have hn : ‖(x : ℂ) * Complex.I‖ = x := by
    rw [norm_mul, Complex.norm_I, mul_one, Complex.norm_real, Real.norm_of_nonneg hp.le]
  have hb := Complex.exp_bound (x := (x : ℂ) * Complex.I) (by rw [hn]; linarith) (n := 6) (by norm_num)
  have h6 : x ^ 6 * (((Nat.succ 6 : ℕ) : ℝ) * (((Nat.factorial 6 : ℕ) : ℝ) * ((6 : ℕ) : ℝ))⁻¹) ≤ 1 / 10 ^ 12 := by
    have : x ^ 6 ≤ (175 / 10000) ^ 6 := pow_le_pow_left₀ hp.le hs 6
    norm_num [Nat.factorial] at this ⊢
    linarith
  have hsum : Complex.exp (x * Complex.I) - (∑ m ∈ Finset.range 6, ((x : ℂ) * Complex.I) ^ m / (m.factorial : ℂ)) =
      ((Real.cos x - (1 - x ^ 2 / 2 + x ^ 4 / 24) : ℝ) : ℂ) + ((Real.sin x - (x - x ^ 3 / 6 + x ^ 5 / 120) : ℝ) : ℂ) * Complex.I := by
    rw [Complex.exp_mul_I]
    simp only [Finset.sum_range_succ, Finset.sum_range_zero, mul_pow, pow_succ, pow_zero, one_mul]
    simp [Nat.factorial]
    ring
  rw [hn, hsum] at hb
  have h := hb.trans h6
  have hre := (Complex.abs_re_le_norm _).trans h
  have him := (Complex.abs_im_le_norm _).trans h
  rw [Complex.add_re, Complex.re_ofReal_mul, Complex.ofReal_re, Complex.I_re, mul_zero, add_zero] at hre
  rw [Complex.add_im, Complex.im_ofReal_mul, Complex.ofReal_im, Complex.I_im, mul_one, zero_add] at him
  exact ⟨hre, him⟩

/-- How far row `k` of the table is from the tangent of `k` degrees, on the unit circle. -/
noncomputable def tanError (k : ℕ) : ℝ :=
  10 ^ 12 * Real.sin (k * (Real.pi / 180)) - (tanTable.getD k 0 : ℝ) * Real.cos (k * (Real.pi / 180))

/-- One degree in radians, to sixteen places. -/
theorem oneDegree_bounds : 0.01745329251994329 ≤ Real.pi / 180 ∧ Real.pi / 180 ≤ 0.01745329251994330 := by
  have h1 := Real.pi_gt_d20
  have h2 := Real.pi_lt_d20
  constructor <;> linarith

/-- The first row's error. -/
theorem tanError_one : |tanError 1| ≤ 10 := by
  obtain ⟨h1, h2⟩ := oneDegree_bounds
  unfold tanError
  rw [show (tanTable.getD 1 0 : ℝ) = 17455064928 by norm_num [tanTable], Nat.cast_one, one_mul]
  generalize Real.pi / 180 = x at h1 h2
  obtain ⟨hc, hs⟩ := sinCos_small (x := x) (by linarith) (by linarith)
  have p2 := pow_le_pow_left₀ (by norm_num) h1 2
  have p3 := pow_le_pow_left₀ (by norm_num) h1 3
  have p4 := pow_le_pow_left₀ (by norm_num) h1 4
  have p5 := pow_le_pow_left₀ (by norm_num) h1 5
  have hx : 0 ≤ x := by linarith
  have q2 := pow_le_pow_left₀ hx h2 2
  have q3 := pow_le_pow_left₀ hx h2 3
  have q4 := pow_le_pow_left₀ hx h2 4
  have q5 := pow_le_pow_left₀ hx h2 5
  rw [abs_le] at *
  norm_num at p2 p3 p4 p5 q2 q3 q4 q5 ⊢
  constructor <;> linarith
/-- The table's rows satisfy the addition theorem of the tangent as nearly as whole numbers can. -/
theorem tanTable_addition : ∀ k, k < 45 →
    |(10 : Int) ^ 24 * (tanTable.getD k 0 - tanTable.getD (k + 1) 0)
      + tanTable.getD 1 0 * (tanTable.getD k 0 * tanTable.getD (k + 1) 0 + 10 ^ 24)| ≤ 2 * 10 ^ 24 := by
  decide

/-- The rows lie between 0 and `rayScale`. -/
theorem tanTable_range : ∀ k, k < 46 → 0 ≤ tanTable.getD k 0 ∧ tanTable.getD k 0 ≤ 10 ^ 12 := by decide

/-- A row's error from the one before it. -/
theorem tanError_succ {k : ℕ} (h : k < 45) : |tanError (k + 1)| ≤ |tanError k| * (1 + 176 / 10000) + 22 := by
  obtain ⟨h1, h2⟩ := oneDegree_bounds
  have hb := tanError_one
  have hj : |(10 : ℝ) ^ 24 * ((tanTable.getD k 0 : ℝ) - tanTable.getD (k + 1) 0)
      + tanTable.getD 1 0 * (tanTable.getD k 0 * tanTable.getD (k + 1) 0 + 10 ^ 24)| ≤ 2 * 10 ^ 24 := by
    exact_mod_cast tanTable_addition k h
  have ht := tanTable_range k (by omega)
  have ht' := tanTable_range (k + 1) (by omega)
  have a1 : (0 : ℝ) ≤ tanTable.getD k 0 := by exact_mod_cast ht.1
  have a2 : (tanTable.getD k 0 : ℝ) ≤ 10 ^ 12 := by exact_mod_cast ht.2
  have b1 : (0 : ℝ) ≤ tanTable.getD (k + 1) 0 := by exact_mod_cast ht'.1
  have b2 : (tanTable.getD (k + 1) 0 : ℝ) ≤ 10 ^ 12 := by exact_mod_cast ht'.2
  unfold tanError at hb ⊢
  rw [Nat.cast_one, one_mul] at hb
  rw [show ((k + 1 : ℕ) : ℝ) * (Real.pi / 180) = k * (Real.pi / 180) + Real.pi / 180 by push_cast; ring,
    Real.sin_add, Real.cos_add]
  generalize (k : ℝ) * (Real.pi / 180) = θ
  generalize Real.pi / 180 = φ at *
  have hsφ0 : 0 ≤ Real.sin φ := Real.sin_nonneg_of_nonneg_of_le_pi (by linarith) (by linarith [Real.pi_gt_three])
  have hsφ : Real.sin φ ≤ 176 / 10000 := (Real.sin_le (by linarith)).trans (by linarith)
  have hcφ := Real.abs_cos_le_one φ
  have hcθ := Real.abs_cos_le_one θ
  generalize (tanTable.getD k 0 : ℝ) = t at *
  generalize (tanTable.getD (k + 1) 0 : ℝ) = u at *
  generalize (tanTable.getD 1 0 : ℝ) = v at *
  generalize Real.sin φ = p at *
  generalize Real.cos φ = q at *
  generalize Real.sin θ = x at *
  generalize Real.cos θ = y at *
  have e : 10 ^ 12 * (x * q + y * p) - u * (y * q - x * p) =
      (10 ^ 12 * x - t * y) * (q + u * p / 10 ^ 12) + y * q * ((10 ^ 24 * (t - u) + v * (t * u + 10 ^ 24)) / 10 ^ 24)
        + y * ((10 ^ 12 * p - v * q) * ((t * u + 10 ^ 24) / 10 ^ 24)) := by ring
  rw [e]
  refine (abs_add_three _ _ _).trans ?_
  have f1 : |(10 ^ 12 * x - t * y) * (q + u * p / 10 ^ 12)| ≤ |10 ^ 12 * x - t * y| * (1 + 176 / 10000) := by
    rw [abs_mul]
    refine mul_le_mul_of_nonneg_left ?_ (abs_nonneg _)
    refine (abs_add_le _ _).trans (add_le_add hcφ ?_)
    rw [abs_of_nonneg (by positivity)]
    have : u * p ≤ 10 ^ 12 * (176 / 10000) := mul_le_mul b2 hsφ hsφ0 (by norm_num)
    linarith
  have f2 : |y * q * ((10 ^ 24 * (t - u) + v * (t * u + 10 ^ 24)) / 10 ^ 24)| ≤ 1 * 2 := by
    rw [abs_mul, abs_mul, abs_div]
    refine mul_le_mul (mul_le_one₀ hcθ (abs_nonneg _) hcφ) ?_ (by positivity) (by norm_num)
    rw [abs_of_nonneg (by norm_num : (0 : ℝ) ≤ 10 ^ 24), div_le_iff₀ (by norm_num)]
    exact hj
  have f3 : |y * ((10 ^ 12 * p - v * q) * ((t * u + 10 ^ 24) / 10 ^ 24))| ≤ 1 * (10 * 2) := by
    rw [abs_mul, abs_mul]
    refine mul_le_mul hcθ (mul_le_mul hb ?_ (abs_nonneg _) (by norm_num)) (by positivity) (by norm_num)
    have : t * u ≤ 10 ^ 12 * 10 ^ 12 := mul_le_mul a2 b2 b1 (by norm_num)
    rw [abs_of_nonneg (by positivity), div_le_iff₀ (by norm_num)]
    linarith
  linarith

/-- Every row's error. -/
theorem tanError_le {k : ℕ} (h : k < 46) : |tanError k| ≤ 200 * k := by
  induction k with
  | zero => simp [tanError, tanTable]
  | succ k ih =>
    have hk : (k : ℝ) ≤ 44 := by exact_mod_cast (by omega : k ≤ 44)
    have := tanError_succ (k := k) (by omega)
    have := ih (by omega)
    push_cast
    linarith

/-- `m` is not within 3/100000 of a multiple of `rayScale`, relative to it. -/
def farFromMultiple (m : ℕ) : Bool := Nat.ble 30000000 (m % 1000000000000) && Nat.ble (m % 1000000000000) 999970000000

/-- Such an `m` is that far from every multiple. -/
theorem farFromMultiple_le {m : ℕ} (h : farFromMultiple m = true) (e : Int) : 30000000 ≤ |e * 10 ^ 12 - (m : Int)| := by
  unfold farFromMultiple at h
  rw [Bool.and_eq_true] at h
  have h1 := Nat.le_of_ble_eq_true h.1
  have h2 := Nat.le_of_ble_eq_true h.2
  rw [le_abs]
  omega

/-- No multiple of an inner row by a 10-bit speed comes near a multiple of `rayScale`. -/
theorem tanTable_gap_check : ((List.range 44).all fun k => (List.range 1023).all fun s =>
    farFromMultiple ((s + 1) * (tanTable.getD (k + 1) 0).toNat)) = true := by decide +kernel

/-- No vector of 10-bit speeds comes near an inner ray. -/
theorem tanTable_gap {k : ℕ} (h1 : 1 ≤ k) (h2 : k ≤ 44) (e : Int) {s : Int} (hs : s ≠ 0) (hb : |s| ≤ 1023) :
    30000000 ≤ |e * 10 ^ 12 - s * tanTable.getD k 0| := by
  have key : ∀ (e : Int) (n : ℕ), 1 ≤ n → n ≤ 1023 → 30000000 ≤ |e * 10 ^ 12 - n * tanTable.getD k 0| := by
    intro e n hn1 hn2
    have h := tanTable_gap_check
    rw [List.all_eq_true] at h
    have h := h (k - 1) (by simp; omega)
    rw [List.all_eq_true] at h
    have h := h (n - 1) (by simp; omega)
    rw [Nat.sub_add_cancel h1, Nat.sub_add_cancel hn1] at h
    have ht := (tanTable_range k (by omega)).1
    obtain ⟨t, ht⟩ := Int.eq_ofNat_of_zero_le ht
    rw [ht] at h ⊢
    rw [← Int.natCast_mul]
    exact farFromMultiple_le h e
  rcases lt_or_gt_of_ne hs with h | h
  · have := key (-e) (-s).toNat (by rw [abs_le] at hb; omega) (by rw [abs_le] at hb; omega)
    rw [Int.toNat_of_nonneg (by omega), ← abs_neg] at this
    rwa [show -(-e * 10 ^ 12 - -s * tanTable.getD k 0) = e * 10 ^ 12 - s * tanTable.getD k 0 by ring] at this
  · have := key e s.toNat (by rw [abs_le] at hb; omega) (by rw [abs_le] at hb; omega)
    rwa [Int.toNat_of_nonneg (by omega)] at this

/-- In the first half-quadrant the integer test has the sign of the true one. -/
theorem octant_sign {k : ℕ} (h : k ≤ 45) (e s : Int) (hb : |s| ≤ 1023) :
    0 ≤ e * 10 ^ 12 - s * tanTable.getD k 0 ↔
      0 ≤ (e : ℝ) * Real.cos (k * (Real.pi / 180)) - s * Real.sin (k * (Real.pi / 180)) := by
  rcases Nat.eq_zero_or_pos k with rfl | h0
  · have : tanTable.getD 0 0 = 0 := rfl
    rw [this]
    simp
  rcases Nat.lt_or_ge k 45 with h45 | h45
  · have hpi := Real.pi_pos
    have hk : (k : ℝ) ≤ 44 := by exact_mod_cast (by omega : k ≤ 44)
    have hk0 : (0 : ℝ) ≤ k := Nat.cast_nonneg k
    have hcos : 7 / 10 ≤ Real.cos (k * (Real.pi / 180)) := by
      have h1 : Real.cos (Real.pi / 4) ≤ Real.cos (k * (Real.pi / 180)) := by
        apply Real.cos_le_cos_of_nonneg_of_le_pi <;> nlinarith
      rw [Real.cos_pi_div_four] at h1
      have h2 : (14 / 10 : ℝ) ≤ √2 := Real.le_sqrt_of_sq_le (by norm_num)
      linarith
    have herr := tanError_le (k := k) (by omega)
    unfold tanError at herr
    generalize Real.cos (k * (Real.pi / 180)) = c at *
    generalize Real.sin (k * (Real.pi / 180)) = x at *
    rcases eq_or_ne s 0 with rfl | hs
    · simp only [zero_mul, sub_zero, Int.cast_zero]
      rw [mul_nonneg_iff_of_pos_right (by norm_num), mul_nonneg_iff_of_pos_right (by linarith)]
      exact Int.cast_nonneg_iff.symm
    · have hg := tanTable_gap h0 (by omega) e hs hb
      have hsb : |(s : ℝ)| ≤ 1023 := by exact_mod_cast hb
      have hm : |(s : ℝ) * (10 ^ 12 * x - tanTable.getD k 0 * c)| ≤ 1023 * 8800 := by
        rw [abs_mul]
        exact mul_le_mul hsb (by linarith) (abs_nonneg _) (by norm_num)
      have e1 : 10 ^ 12 * ((e : ℝ) * c - s * x) =
          c * ((e * 10 ^ 12 - s * tanTable.getD k 0 : Int) : ℝ) - s * (10 ^ 12 * x - tanTable.getD k 0 * c) := by
        push_cast; ring
      generalize (e * 10 ^ 12 - s * tanTable.getD k 0 : Int) = w at *
      rw [← mul_nonneg_iff_of_pos_left (by norm_num : (0 : ℝ) < 10 ^ 12), e1]
      rw [abs_le] at hm
      rw [le_abs] at hg
      constructor
      · intro hw
        have : (30000000 : ℝ) ≤ w := by exact_mod_cast (by omega : 30000000 ≤ w)
        nlinarith
      · intro hw
        by_contra hc
        have : (w : ℝ) ≤ -30000000 := by exact_mod_cast (by omega : w ≤ -30000000)
        nlinarith
  · obtain rfl : k = 45 := by omega
    have ht : tanTable.getD 45 0 = 10 ^ 12 := rfl
    rw [ht, show ((45 : ℕ) : ℝ) * (Real.pi / 180) = Real.pi / 4 by push_cast; ring, Real.cos_pi_div_four,
      Real.sin_pi_div_four, ← sub_mul, ← sub_mul, mul_nonneg_iff_of_pos_right (by norm_num),
      mul_nonneg_iff_of_pos_right (by positivity)]
    exact_mod_cast Iff.rfl

/-- In the first quadrant the integer test has the sign of the true one. -/
theorem quadrant_sign {k : ℕ} (h : k ≤ 90) (v : Vec) (he : |v.e| ≤ 1023) (hs : |v.s| ≤ 1023) :
    0 ≤ cross (quadrantRay k) v ↔
      0 ≤ (v.e : ℝ) * Real.cos (k * (Real.pi / 180)) - v.s * Real.sin (k * (Real.pi / 180)) := by
  unfold cross quadrantRay
  split
  · rename_i h45
    exact octant_sign h45 v.e v.s hs
  · have := octant_sign (k := 90 - k) (by omega) (-v.s) (-v.e) (by rwa [abs_neg])
    rw [show ((90 - k : ℕ) : ℝ) * (Real.pi / 180) = Real.pi / 2 - k * (Real.pi / 180) by
        rw [Nat.cast_sub h]; push_cast; ring, Real.cos_pi_div_two_sub, Real.sin_pi_div_two_sub] at this
    have e1 : v.e * tanTable.getD (90 - k) 0 - v.s * rayScale = -v.s * 10 ^ 12 - -v.e * tanTable.getD (90 - k) 0 := by
      unfold rayScale; ring
    show 0 ≤ v.e * tanTable.getD (90 - k) 0 - v.s * rayScale ↔ _
    rw [e1, this]
    push_cast
    ring_nf

/-- A turned ray against a vector is the ray against the vector turned back. -/
theorem turn_sign (q : ℕ) : ∀ (r : ℕ) (w v : Vec), (∀ v : Vec, |v.e| ≤ 1023 → |v.s| ≤ 1023 → (0 ≤ cross w v ↔
      0 ≤ (v.e : ℝ) * Real.cos (r * (Real.pi / 180)) - v.s * Real.sin (r * (Real.pi / 180)))) →
    |v.e| ≤ 1023 → |v.s| ≤ 1023 → (0 ≤ cross (turn q w) v ↔
      0 ≤ (v.e : ℝ) * Real.cos ((90 * q + r : ℕ) * (Real.pi / 180)) - v.s * Real.sin ((90 * q + r : ℕ) * (Real.pi / 180))) := by
  induction q with
  | zero => intro r w v h he hs; rw [Nat.mul_zero, Nat.zero_add]; exact h v he hs
  | succ q ih =>
    intro r w v h he hs
    have := ih (90 + r) ⟨w.s, -w.e⟩ v (fun u hue hus => by
      have := h ⟨-u.s, u.e⟩ (by simpa using hus) hue
      rw [show ((90 + r : ℕ) : ℝ) * (Real.pi / 180) = r * (Real.pi / 180) + Real.pi / 2 by push_cast; ring,
        Real.cos_add_pi_div_two, Real.sin_add_pi_div_two]
      rw [show cross ⟨w.s, -w.e⟩ u = cross w ⟨-u.s, u.e⟩ by simp only [cross]; ring, this]
      push_cast
      ring_nf) he hs
    rwa [show 90 * q + (90 + r) = 90 * (q + 1) + r by ring] at this

/-- Every ray's test has the sign of the sine of the angle from that whole degree. -/
theorem cross_ray_nonneg_iff (k : ℕ) (v : Vec) (he : |v.e| ≤ 1023) (hs : |v.s| ≤ 1023) :
    0 ≤ cross (ray k) v ↔
      0 ≤ (v.e : ℝ) * Real.cos (k * (Real.pi / 180)) - v.s * Real.sin (k * (Real.pi / 180)) := by
  have := turn_sign (k / 90) (k % 90) (quadrantRay (k % 90)) v
    (fun u h1 h2 => quadrant_sign (by omega) u h1 h2) he hs
  rwa [Nat.div_add_mod] at this
end Sys2Proof.Machine
end

