-- ==== Sys2Proof/Laws/PerInstr.lean ====
section
/-! SUPPORT. Per instruction: the class map of 30_encoding.md R96 and R97 gives every well-formed frame class the row its
payload matches (R99). -/

namespace Sys2Proof.Laws.Classify

open Sys2Proof

/-- A well-formed frame class is the class of its payload, and the payload has 1 to 14 bytes. -/
def Statement (i : Instr) : Prop :=
  WellFormed i → ∀ r p, classRow i = some (r, p) → classify p = i ∧ 1 ≤ p.length ∧ p.length ≤ 14

/-- What a row's test says: the masked head and the two bounds. -/
theorem admits_iff (r : ClassRow) (p : Payload) :
    r.admits p = true ↔ head40 p &&& r.mask = r.want ∧ r.nMin ≤ p.length ∧ p.length ≤ r.nMax := by
  simp [ClassRow.admits, and_assoc]

/-- The format a masked head gives, under any mask that has the format's bits. -/
theorem format_of_head {p : Payload} {m v : BitVec 40} (h : head40 p &&& m = v)
    (hm : m.extractLsb' 35 5 = BitVec.allOnes 5) :
    (downlinkFormat (frameOf p)).toNat = (v.extractLsb' 35 5).toNat := by
  rw [downlinkFormat_head, extract_masked _ _ _ h _ _ hm]

/-- The `metype` a masked head gives, under any mask that has its bits. -/
theorem metype_of_head {p : Payload} {m v : BitVec 40} (h : head40 p &&& m = v)
    (hm : m.extractLsb' 3 5 = BitVec.allOnes 5) :
    (metype (frameOf p)).toNat = (v.extractLsb' 3 5).toNat := by
  rw [metype_head, extract_masked _ _ _ h _ _ hm]

/-- The `mesub` a masked head gives, under any mask that has its bits. -/
theorem mesub_of_head {p : Payload} {m v : BitVec 40} (h : head40 p &&& m = v)
    (hm : m.extractLsb' 0 3 = BitVec.allOnes 3) :
    (mesub (frameOf p)).toNat = (v.extractLsb' 0 3).toNat := by
  rw [mesub_head, extract_masked _ _ _ h _ _ hm]

/-- The row's test, for an instruction that has a row. -/
theorem row_facts {i : Instr} {r : ClassRow} {p : Payload} (hr : classRow i = some (r, p)) (h : WellFormed i) :
    head40 p &&& r.mask = r.want ∧ r.nMin ≤ p.length ∧ p.length ≤ r.nMax := by
  rw [← admits_iff]
  simpa [WellFormed, wellFormed, hr] using h

/-- From the row of a class and what the class map gives its payload, the class's statement. -/
theorem of_row {i : Instr} {r : ClassRow} {p : Payload} (hr : classRow i = some (r, p)) (lo : 1 ≤ r.nMin) (hi : r.nMax ≤ 14)
    (hc : head40 p &&& r.mask = r.want → r.nMin ≤ p.length → p.length ≤ r.nMax → classify p = i) : Statement i := by
  intro hw r' p' hr'
  obtain ⟨rfl, rfl⟩ := Prod.mk.inj (Option.some.inj (hr.symm.trans hr'))
  obtain ⟨h1, h2, h3⟩ := row_facts hr hw
  exact ⟨hc h1 h2 h3, lo.trans h2, h3.trans hi⟩

/-- An instruction without a row says nothing. -/
theorem of_no_row {i : Instr} (hr : classRow i = none) : Statement i := by
  intro _ r p h
  rw [hr] at h
  cases h

theorem df0 (p : Payload) : Statement (.df0 p) :=
  of_row rfl (by decide) (by decide) fun h _ _ => by
    have hf := format_of_head h (by decide)
    simp [classify, hf]

theorem df1 (p : Payload) : Statement (.df1 p) :=
  of_row rfl (by decide) (by decide) fun h _ _ => by
    have hf := format_of_head h (by decide)
    simp [classify, hf]

theorem df2 (p : Payload) : Statement (.df2 p) :=
  of_row rfl (by decide) (by decide) fun h _ _ => by
    have hf := format_of_head h (by decide)
    simp [classify, hf]

theorem df3 (p : Payload) : Statement (.df3 p) :=
  of_row rfl (by decide) (by decide) fun h _ _ => by
    have hf := format_of_head h (by decide)
    simp [classify, hf]

theorem df4 (p : Payload) : Statement (.df4 p) :=
  of_row rfl (by decide) (by decide) fun h _ _ => by
    have hf := format_of_head h (by decide)
    simp [classify, hf]

theorem df5 (p : Payload) : Statement (.df5 p) :=
  of_row rfl (by decide) (by decide) fun h _ _ => by
    have hf := format_of_head h (by decide)
    simp [classify, hf]

theorem df6 (p : Payload) : Statement (.df6 p) :=
  of_row rfl (by decide) (by decide) fun h _ _ => by
    have hf := format_of_head h (by decide)
    simp [classify, hf]

theorem df7 (p : Payload) : Statement (.df7 p) :=
  of_row rfl (by decide) (by decide) fun h _ _ => by
    have hf := format_of_head h (by decide)
    simp [classify, hf]

theorem df8 (p : Payload) : Statement (.df8 p) :=
  of_row rfl (by decide) (by decide) fun h _ _ => by
    have hf := format_of_head h (by decide)
    simp [classify, hf]

theorem df9 (p : Payload) : Statement (.df9 p) :=
  of_row rfl (by decide) (by decide) fun h _ _ => by
    have hf := format_of_head h (by decide)
    simp [classify, hf]

theorem df10 (p : Payload) : Statement (.df10 p) :=
  of_row rfl (by decide) (by decide) fun h _ _ => by
    have hf := format_of_head h (by decide)
    simp [classify, hf]

theorem df11 (p : Payload) : Statement (.df11 p) :=
  of_row rfl (by decide) (by decide) fun h _ _ => by
    have hf := format_of_head h (by decide)
    simp [classify, hf]

theorem df12 (p : Payload) : Statement (.df12 p) :=
  of_row rfl (by decide) (by decide) fun h _ _ => by
    have hf := format_of_head h (by decide)
    simp [classify, hf]

theorem df13 (p : Payload) : Statement (.df13 p) :=
  of_row rfl (by decide) (by decide) fun h _ _ => by
    have hf := format_of_head h (by decide)
    simp [classify, hf]

theorem df14 (p : Payload) : Statement (.df14 p) :=
  of_row rfl (by decide) (by decide) fun h _ _ => by
    have hf := format_of_head h (by decide)
    simp [classify, hf]

theorem df15 (p : Payload) : Statement (.df15 p) :=
  of_row rfl (by decide) (by decide) fun h _ _ => by
    have hf := format_of_head h (by decide)
    simp [classify, hf]

theorem df16 (p : Payload) : Statement (.df16 p) :=
  of_row rfl (by decide) (by decide) fun h _ _ => by
    have hf := format_of_head h (by decide)
    simp [classify, hf]

theorem df17Noes (p : Payload) : Statement (.df17Noes p) :=
  of_row rfl (by decide) (by decide) fun h _ hn => by
    have hf := format_of_head h (by decide)
    have : ¬ 11 ≤ p.length := Nat.not_le.2 (Nat.lt_succ_of_le hn)
    simp [classify, hf, this]

theorem df17NoneT0 (p : Payload) : Statement (.df17NoneT0 p) :=
  of_row rfl (by decide) (by decide) fun h hn _ => by
    have hf := format_of_head h (by decide)
    have ht := metype_of_head h (by decide)
    simp [classify, classifyEs17, hf, ht, hn]

theorem df17IdentT1 (p : Payload) : Statement (.df17IdentT1 p) :=
  of_row rfl (by decide) (by decide) fun h hn _ => by
    have hf := format_of_head h (by decide)
    have ht := metype_of_head h (by decide)
    simp [classify, classifyEs17, hf, ht, hn]

theorem df17IdentT2 (p : Payload) : Statement (.df17IdentT2 p) :=
  of_row rfl (by decide) (by decide) fun h hn _ => by
    have hf := format_of_head h (by decide)
    have ht := metype_of_head h (by decide)
    simp [classify, classifyEs17, hf, ht, hn]

theorem df17IdentT3 (p : Payload) : Statement (.df17IdentT3 p) :=
  of_row rfl (by decide) (by decide) fun h hn _ => by
    have hf := format_of_head h (by decide)
    have ht := metype_of_head h (by decide)
    simp [classify, classifyEs17, hf, ht, hn]

theorem df17IdentT4 (p : Payload) : Statement (.df17IdentT4 p) :=
  of_row rfl (by decide) (by decide) fun h hn _ => by
    have hf := format_of_head h (by decide)
    have ht := metype_of_head h (by decide)
    simp [classify, classifyEs17, hf, ht, hn]

theorem df17NoneT5 (p : Payload) : Statement (.df17NoneT5 p) :=
  of_row rfl (by decide) (by decide) fun h hn _ => by
    have hf := format_of_head h (by decide)
    have ht := metype_of_head h (by decide)
    simp [classify, classifyEs17, hf, ht, hn]

theorem df17NoneT6 (p : Payload) : Statement (.df17NoneT6 p) :=
  of_row rfl (by decide) (by decide) fun h hn _ => by
    have hf := format_of_head h (by decide)
    have ht := metype_of_head h (by decide)
    simp [classify, classifyEs17, hf, ht, hn]

theorem df17NoneT7 (p : Payload) : Statement (.df17NoneT7 p) :=
  of_row rfl (by decide) (by decide) fun h hn _ => by
    have hf := format_of_head h (by decide)
    have ht := metype_of_head h (by decide)
    simp [classify, classifyEs17, hf, ht, hn]

theorem df17NoneT8 (p : Payload) : Statement (.df17NoneT8 p) :=
  of_row rfl (by decide) (by decide) fun h hn _ => by
    have hf := format_of_head h (by decide)
    have ht := metype_of_head h (by decide)
    simp [classify, classifyEs17, hf, ht, hn]

theorem df17AirposT9 (p : Payload) : Statement (.df17AirposT9 p) :=
  of_row rfl (by decide) (by decide) fun h hn _ => by
    have hf := format_of_head h (by decide)
    have ht := metype_of_head h (by decide)
    simp [classify, classifyEs17, hf, ht, hn]

theorem df17AirposT10 (p : Payload) : Statement (.df17AirposT10 p) :=
  of_row rfl (by decide) (by decide) fun h hn _ => by
    have hf := format_of_head h (by decide)
    have ht := metype_of_head h (by decide)
    simp [classify, classifyEs17, hf, ht, hn]

theorem df17AirposT11 (p : Payload) : Statement (.df17AirposT11 p) :=
  of_row rfl (by decide) (by decide) fun h hn _ => by
    have hf := format_of_head h (by decide)
    have ht := metype_of_head h (by decide)
    simp [classify, classifyEs17, hf, ht, hn]

theorem df17AirposT12 (p : Payload) : Statement (.df17AirposT12 p) :=
  of_row rfl (by decide) (by decide) fun h hn _ => by
    have hf := format_of_head h (by decide)
    have ht := metype_of_head h (by decide)
    simp [classify, classifyEs17, hf, ht, hn]

theorem df17AirposT13 (p : Payload) : Statement (.df17AirposT13 p) :=
  of_row rfl (by decide) (by decide) fun h hn _ => by
    have hf := format_of_head h (by decide)
    have ht := metype_of_head h (by decide)
    simp [classify, classifyEs17, hf, ht, hn]

theorem df17AirposT14 (p : Payload) : Statement (.df17AirposT14 p) :=
  of_row rfl (by decide) (by decide) fun h hn _ => by
    have hf := format_of_head h (by decide)
    have ht := metype_of_head h (by decide)
    simp [classify, classifyEs17, hf, ht, hn]

theorem df17AirposT15 (p : Payload) : Statement (.df17AirposT15 p) :=
  of_row rfl (by decide) (by decide) fun h hn _ => by
    have hf := format_of_head h (by decide)
    have ht := metype_of_head h (by decide)
    simp [classify, classifyEs17, hf, ht, hn]

theorem df17AirposT16 (p : Payload) : Statement (.df17AirposT16 p) :=
  of_row rfl (by decide) (by decide) fun h hn _ => by
    have hf := format_of_head h (by decide)
    have ht := metype_of_head h (by decide)
    simp [classify, classifyEs17, hf, ht, hn]

theorem df17AirposT17 (p : Payload) : Statement (.df17AirposT17 p) :=
  of_row rfl (by decide) (by decide) fun h hn _ => by
    have hf := format_of_head h (by decide)
    have ht := metype_of_head h (by decide)
    simp [classify, classifyEs17, hf, ht, hn]

theorem df17AirposT18 (p : Payload) : Statement (.df17AirposT18 p) :=
  of_row rfl (by decide) (by decide) fun h hn _ => by
    have hf := format_of_head h (by decide)
    have ht := metype_of_head h (by decide)
    simp [classify, classifyEs17, hf, ht, hn]

theorem df17NoneT19S0 (p : Payload) : Statement (.df17NoneT19S0 p) :=
  of_row rfl (by decide) (by decide) fun h hn _ => by
    have hf := format_of_head h (by decide)
    have ht := metype_of_head h (by decide)
    have hs := mesub_of_head h (by decide)
    simp [classify, classifyEs17, hf, ht, hs, hn]

theorem df17VelGsT19S1 (p : Payload) : Statement (.df17VelGsT19S1 p) :=
  of_row rfl (by decide) (by decide) fun h hn _ => by
    have hf := format_of_head h (by decide)
    have ht := metype_of_head h (by decide)
    have hs := mesub_of_head h (by decide)
    simp [classify, classifyEs17, hf, ht, hs, hn]

theorem df17VelGsT19S2 (p : Payload) : Statement (.df17VelGsT19S2 p) :=
  of_row rfl (by decide) (by decide) fun h hn _ => by
    have hf := format_of_head h (by decide)
    have ht := metype_of_head h (by decide)
    have hs := mesub_of_head h (by decide)
    simp [classify, classifyEs17, hf, ht, hs, hn]

theorem df17VelHdgT19S3 (p : Payload) : Statement (.df17VelHdgT19S3 p) :=
  of_row rfl (by decide) (by decide) fun h hn _ => by
    have hf := format_of_head h (by decide)
    have ht := metype_of_head h (by decide)
    have hs := mesub_of_head h (by decide)
    simp [classify, classifyEs17, hf, ht, hs, hn]

theorem df17VelHdgT19S4 (p : Payload) : Statement (.df17VelHdgT19S4 p) :=
  of_row rfl (by decide) (by decide) fun h hn _ => by
    have hf := format_of_head h (by decide)
    have ht := metype_of_head h (by decide)
    have hs := mesub_of_head h (by decide)
    simp [classify, classifyEs17, hf, ht, hs, hn]

theorem df17NoneT19S5 (p : Payload) : Statement (.df17NoneT19S5 p) :=
  of_row rfl (by decide) (by decide) fun h hn _ => by
    have hf := format_of_head h (by decide)
    have ht := metype_of_head h (by decide)
    have hs := mesub_of_head h (by decide)
    simp [classify, classifyEs17, hf, ht, hs, hn]

theorem df17NoneT19S6 (p : Payload) : Statement (.df17NoneT19S6 p) :=
  of_row rfl (by decide) (by decide) fun h hn _ => by
    have hf := format_of_head h (by decide)
    have ht := metype_of_head h (by decide)
    have hs := mesub_of_head h (by decide)
    simp [classify, classifyEs17, hf, ht, hs, hn]

theorem df17NoneT19S7 (p : Payload) : Statement (.df17NoneT19S7 p) :=
  of_row rfl (by decide) (by decide) fun h hn _ => by
    have hf := format_of_head h (by decide)
    have ht := metype_of_head h (by decide)
    have hs := mesub_of_head h (by decide)
    simp [classify, classifyEs17, hf, ht, hs, hn]

theorem df17NoneT20 (p : Payload) : Statement (.df17NoneT20 p) :=
  of_row rfl (by decide) (by decide) fun h hn _ => by
    have hf := format_of_head h (by decide)
    have ht := metype_of_head h (by decide)
    simp [classify, classifyEs17, hf, ht, hn]

theorem df17NoneT21 (p : Payload) : Statement (.df17NoneT21 p) :=
  of_row rfl (by decide) (by decide) fun h hn _ => by
    have hf := format_of_head h (by decide)
    have ht := metype_of_head h (by decide)
    simp [classify, classifyEs17, hf, ht, hn]

theorem df17NoneT22 (p : Payload) : Statement (.df17NoneT22 p) :=
  of_row rfl (by decide) (by decide) fun h hn _ => by
    have hf := format_of_head h (by decide)
    have ht := metype_of_head h (by decide)
    simp [classify, classifyEs17, hf, ht, hn]

theorem df17NoneT23 (p : Payload) : Statement (.df17NoneT23 p) :=
  of_row rfl (by decide) (by decide) fun h hn _ => by
    have hf := format_of_head h (by decide)
    have ht := metype_of_head h (by decide)
    simp [classify, classifyEs17, hf, ht, hn]

theorem df17NoneT24 (p : Payload) : Statement (.df17NoneT24 p) :=
  of_row rfl (by decide) (by decide) fun h hn _ => by
    have hf := format_of_head h (by decide)
    have ht := metype_of_head h (by decide)
    simp [classify, classifyEs17, hf, ht, hn]

theorem df17NoneT25 (p : Payload) : Statement (.df17NoneT25 p) :=
  of_row rfl (by decide) (by decide) fun h hn _ => by
    have hf := format_of_head h (by decide)
    have ht := metype_of_head h (by decide)
    simp [classify, classifyEs17, hf, ht, hn]

theorem df17NoneT26 (p : Payload) : Statement (.df17NoneT26 p) :=
  of_row rfl (by decide) (by decide) fun h hn _ => by
    have hf := format_of_head h (by decide)
    have ht := metype_of_head h (by decide)
    simp [classify, classifyEs17, hf, ht, hn]

theorem df17NoneT27 (p : Payload) : Statement (.df17NoneT27 p) :=
  of_row rfl (by decide) (by decide) fun h hn _ => by
    have hf := format_of_head h (by decide)
    have ht := metype_of_head h (by decide)
    simp [classify, classifyEs17, hf, ht, hn]

theorem df17NoneT28 (p : Payload) : Statement (.df17NoneT28 p) :=
  of_row rfl (by decide) (by decide) fun h hn _ => by
    have hf := format_of_head h (by decide)
    have ht := metype_of_head h (by decide)
    simp [classify, classifyEs17, hf, ht, hn]

theorem df17NoneT29 (p : Payload) : Statement (.df17NoneT29 p) :=
  of_row rfl (by decide) (by decide) fun h hn _ => by
    have hf := format_of_head h (by decide)
    have ht := metype_of_head h (by decide)
    simp [classify, classifyEs17, hf, ht, hn]

theorem df17NoneT30 (p : Payload) : Statement (.df17NoneT30 p) :=
  of_row rfl (by decide) (by decide) fun h hn _ => by
    have hf := format_of_head h (by decide)
    have ht := metype_of_head h (by decide)
    simp [classify, classifyEs17, hf, ht, hn]

theorem df17NoneT31 (p : Payload) : Statement (.df17NoneT31 p) :=
  of_row rfl (by decide) (by decide) fun h hn _ => by
    have hf := format_of_head h (by decide)
    have ht := metype_of_head h (by decide)
    simp [classify, classifyEs17, hf, ht, hn]

theorem df18Noes (p : Payload) : Statement (.df18Noes p) :=
  of_row rfl (by decide) (by decide) fun h _ hn => by
    have hf := format_of_head h (by decide)
    have : ¬ 11 ≤ p.length := Nat.not_le.2 (Nat.lt_succ_of_le hn)
    simp [classify, hf, this]

theorem df18NoneT0 (p : Payload) : Statement (.df18NoneT0 p) :=
  of_row rfl (by decide) (by decide) fun h hn _ => by
    have hf := format_of_head h (by decide)
    have ht := metype_of_head h (by decide)
    simp [classify, classifyEs18, hf, ht, hn]

theorem df18IdentT1 (p : Payload) : Statement (.df18IdentT1 p) :=
  of_row rfl (by decide) (by decide) fun h hn _ => by
    have hf := format_of_head h (by decide)
    have ht := metype_of_head h (by decide)
    simp [classify, classifyEs18, hf, ht, hn]

theorem df18IdentT2 (p : Payload) : Statement (.df18IdentT2 p) :=
  of_row rfl (by decide) (by decide) fun h hn _ => by
    have hf := format_of_head h (by decide)
    have ht := metype_of_head h (by decide)
    simp [classify, classifyEs18, hf, ht, hn]

theorem df18IdentT3 (p : Payload) : Statement (.df18IdentT3 p) :=
  of_row rfl (by decide) (by decide) fun h hn _ => by
    have hf := format_of_head h (by decide)
    have ht := metype_of_head h (by decide)
    simp [classify, classifyEs18, hf, ht, hn]

theorem df18IdentT4 (p : Payload) : Statement (.df18IdentT4 p) :=
  of_row rfl (by decide) (by decide) fun h hn _ => by
    have hf := format_of_head h (by decide)
    have ht := metype_of_head h (by decide)
    simp [classify, classifyEs18, hf, ht, hn]

theorem df18NoneT5 (p : Payload) : Statement (.df18NoneT5 p) :=
  of_row rfl (by decide) (by decide) fun h hn _ => by
    have hf := format_of_head h (by decide)
    have ht := metype_of_head h (by decide)
    simp [classify, classifyEs18, hf, ht, hn]

theorem df18NoneT6 (p : Payload) : Statement (.df18NoneT6 p) :=
  of_row rfl (by decide) (by decide) fun h hn _ => by
    have hf := format_of_head h (by decide)
    have ht := metype_of_head h (by decide)
    simp [classify, classifyEs18, hf, ht, hn]

theorem df18NoneT7 (p : Payload) : Statement (.df18NoneT7 p) :=
  of_row rfl (by decide) (by decide) fun h hn _ => by
    have hf := format_of_head h (by decide)
    have ht := metype_of_head h (by decide)
    simp [classify, classifyEs18, hf, ht, hn]

theorem df18NoneT8 (p : Payload) : Statement (.df18NoneT8 p) :=
  of_row rfl (by decide) (by decide) fun h hn _ => by
    have hf := format_of_head h (by decide)
    have ht := metype_of_head h (by decide)
    simp [classify, classifyEs18, hf, ht, hn]

theorem df18AirposT9 (p : Payload) : Statement (.df18AirposT9 p) :=
  of_row rfl (by decide) (by decide) fun h hn _ => by
    have hf := format_of_head h (by decide)
    have ht := metype_of_head h (by decide)
    simp [classify, classifyEs18, hf, ht, hn]

theorem df18AirposT10 (p : Payload) : Statement (.df18AirposT10 p) :=
  of_row rfl (by decide) (by decide) fun h hn _ => by
    have hf := format_of_head h (by decide)
    have ht := metype_of_head h (by decide)
    simp [classify, classifyEs18, hf, ht, hn]

theorem df18AirposT11 (p : Payload) : Statement (.df18AirposT11 p) :=
  of_row rfl (by decide) (by decide) fun h hn _ => by
    have hf := format_of_head h (by decide)
    have ht := metype_of_head h (by decide)
    simp [classify, classifyEs18, hf, ht, hn]

theorem df18AirposT12 (p : Payload) : Statement (.df18AirposT12 p) :=
  of_row rfl (by decide) (by decide) fun h hn _ => by
    have hf := format_of_head h (by decide)
    have ht := metype_of_head h (by decide)
    simp [classify, classifyEs18, hf, ht, hn]

theorem df18AirposT13 (p : Payload) : Statement (.df18AirposT13 p) :=
  of_row rfl (by decide) (by decide) fun h hn _ => by
    have hf := format_of_head h (by decide)
    have ht := metype_of_head h (by decide)
    simp [classify, classifyEs18, hf, ht, hn]

theorem df18AirposT14 (p : Payload) : Statement (.df18AirposT14 p) :=
  of_row rfl (by decide) (by decide) fun h hn _ => by
    have hf := format_of_head h (by decide)
    have ht := metype_of_head h (by decide)
    simp [classify, classifyEs18, hf, ht, hn]

theorem df18AirposT15 (p : Payload) : Statement (.df18AirposT15 p) :=
  of_row rfl (by decide) (by decide) fun h hn _ => by
    have hf := format_of_head h (by decide)
    have ht := metype_of_head h (by decide)
    simp [classify, classifyEs18, hf, ht, hn]

theorem df18AirposT16 (p : Payload) : Statement (.df18AirposT16 p) :=
  of_row rfl (by decide) (by decide) fun h hn _ => by
    have hf := format_of_head h (by decide)
    have ht := metype_of_head h (by decide)
    simp [classify, classifyEs18, hf, ht, hn]

theorem df18AirposT17 (p : Payload) : Statement (.df18AirposT17 p) :=
  of_row rfl (by decide) (by decide) fun h hn _ => by
    have hf := format_of_head h (by decide)
    have ht := metype_of_head h (by decide)
    simp [classify, classifyEs18, hf, ht, hn]

theorem df18AirposT18 (p : Payload) : Statement (.df18AirposT18 p) :=
  of_row rfl (by decide) (by decide) fun h hn _ => by
    have hf := format_of_head h (by decide)
    have ht := metype_of_head h (by decide)
    simp [classify, classifyEs18, hf, ht, hn]

theorem df18NoneT19S0 (p : Payload) : Statement (.df18NoneT19S0 p) :=
  of_row rfl (by decide) (by decide) fun h hn _ => by
    have hf := format_of_head h (by decide)
    have ht := metype_of_head h (by decide)
    have hs := mesub_of_head h (by decide)
    simp [classify, classifyEs18, hf, ht, hs, hn]

theorem df18VelGsT19S1 (p : Payload) : Statement (.df18VelGsT19S1 p) :=
  of_row rfl (by decide) (by decide) fun h hn _ => by
    have hf := format_of_head h (by decide)
    have ht := metype_of_head h (by decide)
    have hs := mesub_of_head h (by decide)
    simp [classify, classifyEs18, hf, ht, hs, hn]

theorem df18VelGsT19S2 (p : Payload) : Statement (.df18VelGsT19S2 p) :=
  of_row rfl (by decide) (by decide) fun h hn _ => by
    have hf := format_of_head h (by decide)
    have ht := metype_of_head h (by decide)
    have hs := mesub_of_head h (by decide)
    simp [classify, classifyEs18, hf, ht, hs, hn]

theorem df18VelHdgT19S3 (p : Payload) : Statement (.df18VelHdgT19S3 p) :=
  of_row rfl (by decide) (by decide) fun h hn _ => by
    have hf := format_of_head h (by decide)
    have ht := metype_of_head h (by decide)
    have hs := mesub_of_head h (by decide)
    simp [classify, classifyEs18, hf, ht, hs, hn]

theorem df18VelHdgT19S4 (p : Payload) : Statement (.df18VelHdgT19S4 p) :=
  of_row rfl (by decide) (by decide) fun h hn _ => by
    have hf := format_of_head h (by decide)
    have ht := metype_of_head h (by decide)
    have hs := mesub_of_head h (by decide)
    simp [classify, classifyEs18, hf, ht, hs, hn]

theorem df18NoneT19S5 (p : Payload) : Statement (.df18NoneT19S5 p) :=
  of_row rfl (by decide) (by decide) fun h hn _ => by
    have hf := format_of_head h (by decide)
    have ht := metype_of_head h (by decide)
    have hs := mesub_of_head h (by decide)
    simp [classify, classifyEs18, hf, ht, hs, hn]

theorem df18NoneT19S6 (p : Payload) : Statement (.df18NoneT19S6 p) :=
  of_row rfl (by decide) (by decide) fun h hn _ => by
    have hf := format_of_head h (by decide)
    have ht := metype_of_head h (by decide)
    have hs := mesub_of_head h (by decide)
    simp [classify, classifyEs18, hf, ht, hs, hn]

theorem df18NoneT19S7 (p : Payload) : Statement (.df18NoneT19S7 p) :=
  of_row rfl (by decide) (by decide) fun h hn _ => by
    have hf := format_of_head h (by decide)
    have ht := metype_of_head h (by decide)
    have hs := mesub_of_head h (by decide)
    simp [classify, classifyEs18, hf, ht, hs, hn]

theorem df18NoneT20 (p : Payload) : Statement (.df18NoneT20 p) :=
  of_row rfl (by decide) (by decide) fun h hn _ => by
    have hf := format_of_head h (by decide)
    have ht := metype_of_head h (by decide)
    simp [classify, classifyEs18, hf, ht, hn]

theorem df18NoneT21 (p : Payload) : Statement (.df18NoneT21 p) :=
  of_row rfl (by decide) (by decide) fun h hn _ => by
    have hf := format_of_head h (by decide)
    have ht := metype_of_head h (by decide)
    simp [classify, classifyEs18, hf, ht, hn]

theorem df18NoneT22 (p : Payload) : Statement (.df18NoneT22 p) :=
  of_row rfl (by decide) (by decide) fun h hn _ => by
    have hf := format_of_head h (by decide)
    have ht := metype_of_head h (by decide)
    simp [classify, classifyEs18, hf, ht, hn]

theorem df18NoneT23 (p : Payload) : Statement (.df18NoneT23 p) :=
  of_row rfl (by decide) (by decide) fun h hn _ => by
    have hf := format_of_head h (by decide)
    have ht := metype_of_head h (by decide)
    simp [classify, classifyEs18, hf, ht, hn]

theorem df18NoneT24 (p : Payload) : Statement (.df18NoneT24 p) :=
  of_row rfl (by decide) (by decide) fun h hn _ => by
    have hf := format_of_head h (by decide)
    have ht := metype_of_head h (by decide)
    simp [classify, classifyEs18, hf, ht, hn]

theorem df18NoneT25 (p : Payload) : Statement (.df18NoneT25 p) :=
  of_row rfl (by decide) (by decide) fun h hn _ => by
    have hf := format_of_head h (by decide)
    have ht := metype_of_head h (by decide)
    simp [classify, classifyEs18, hf, ht, hn]

theorem df18NoneT26 (p : Payload) : Statement (.df18NoneT26 p) :=
  of_row rfl (by decide) (by decide) fun h hn _ => by
    have hf := format_of_head h (by decide)
    have ht := metype_of_head h (by decide)
    simp [classify, classifyEs18, hf, ht, hn]

theorem df18NoneT27 (p : Payload) : Statement (.df18NoneT27 p) :=
  of_row rfl (by decide) (by decide) fun h hn _ => by
    have hf := format_of_head h (by decide)
    have ht := metype_of_head h (by decide)
    simp [classify, classifyEs18, hf, ht, hn]

theorem df18NoneT28 (p : Payload) : Statement (.df18NoneT28 p) :=
  of_row rfl (by decide) (by decide) fun h hn _ => by
    have hf := format_of_head h (by decide)
    have ht := metype_of_head h (by decide)
    simp [classify, classifyEs18, hf, ht, hn]

theorem df18NoneT29 (p : Payload) : Statement (.df18NoneT29 p) :=
  of_row rfl (by decide) (by decide) fun h hn _ => by
    have hf := format_of_head h (by decide)
    have ht := metype_of_head h (by decide)
    simp [classify, classifyEs18, hf, ht, hn]

theorem df18NoneT30 (p : Payload) : Statement (.df18NoneT30 p) :=
  of_row rfl (by decide) (by decide) fun h hn _ => by
    have hf := format_of_head h (by decide)
    have ht := metype_of_head h (by decide)
    simp [classify, classifyEs18, hf, ht, hn]

theorem df18NoneT31 (p : Payload) : Statement (.df18NoneT31 p) :=
  of_row rfl (by decide) (by decide) fun h hn _ => by
    have hf := format_of_head h (by decide)
    have ht := metype_of_head h (by decide)
    simp [classify, classifyEs18, hf, ht, hn]

theorem df19 (p : Payload) : Statement (.df19 p) :=
  of_row rfl (by decide) (by decide) fun h _ _ => by
    have hf := format_of_head h (by decide)
    simp [classify, hf]

theorem df20 (p : Payload) : Statement (.df20 p) :=
  of_row rfl (by decide) (by decide) fun h _ _ => by
    have hf := format_of_head h (by decide)
    simp [classify, hf]

theorem df21 (p : Payload) : Statement (.df21 p) :=
  of_row rfl (by decide) (by decide) fun h _ _ => by
    have hf := format_of_head h (by decide)
    simp [classify, hf]

theorem df22 (p : Payload) : Statement (.df22 p) :=
  of_row rfl (by decide) (by decide) fun h _ _ => by
    have hf := format_of_head h (by decide)
    simp [classify, hf]

theorem df23 (p : Payload) : Statement (.df23 p) :=
  of_row rfl (by decide) (by decide) fun h _ _ => by
    have hf := format_of_head h (by decide)
    simp [classify, hf]

theorem df24 (p : Payload) : Statement (.df24 p) :=
  of_row rfl (by decide) (by decide) fun h _ _ => by
    have hf := format_of_head h (by decide)
    simp [classify, hf]

theorem df25 (p : Payload) : Statement (.df25 p) :=
  of_row rfl (by decide) (by decide) fun h _ _ => by
    have hf := format_of_head h (by decide)
    simp [classify, hf]

theorem df26 (p : Payload) : Statement (.df26 p) :=
  of_row rfl (by decide) (by decide) fun h _ _ => by
    have hf := format_of_head h (by decide)
    simp [classify, hf]

theorem df27 (p : Payload) : Statement (.df27 p) :=
  of_row rfl (by decide) (by decide) fun h _ _ => by
    have hf := format_of_head h (by decide)
    simp [classify, hf]

theorem df28 (p : Payload) : Statement (.df28 p) :=
  of_row rfl (by decide) (by decide) fun h _ _ => by
    have hf := format_of_head h (by decide)
    simp [classify, hf]

theorem df29 (p : Payload) : Statement (.df29 p) :=
  of_row rfl (by decide) (by decide) fun h _ _ => by
    have hf := format_of_head h (by decide)
    simp [classify, hf]

theorem df30 (p : Payload) : Statement (.df30 p) :=
  of_row rfl (by decide) (by decide) fun h _ _ => by
    have hf := format_of_head h (by decide)
    simp [classify, hf]

theorem df31 (p : Payload) : Statement (.df31 p) :=
  of_row rfl (by decide) (by decide) fun h _ _ => by
    have hf := format_of_head h (by decide)
    simp [classify, hf]

theorem nop : Statement .nop := of_no_row rfl

theorem decode (line : Line) : Statement (.decode line) := of_no_row rfl

theorem statsRead : Statement .statsRead := of_no_row rfl

theorem statsReset : Statement .statsReset := of_no_row rfl

/-- The statement of every instruction. -/
theorem statement_of (i : Instr) : Statement i := by
  cases i with
  | df0 p => exact df0 p
  | df1 p => exact df1 p
  | df2 p => exact df2 p
  | df3 p => exact df3 p
  | df4 p => exact df4 p
  | df5 p => exact df5 p
  | df6 p => exact df6 p
  | df7 p => exact df7 p
  | df8 p => exact df8 p
  | df9 p => exact df9 p
  | df10 p => exact df10 p
  | df11 p => exact df11 p
  | df12 p => exact df12 p
  | df13 p => exact df13 p
  | df14 p => exact df14 p
  | df15 p => exact df15 p
  | df16 p => exact df16 p
  | df17Noes p => exact df17Noes p
  | df17NoneT0 p => exact df17NoneT0 p
  | df17IdentT1 p => exact df17IdentT1 p
  | df17IdentT2 p => exact df17IdentT2 p
  | df17IdentT3 p => exact df17IdentT3 p
  | df17IdentT4 p => exact df17IdentT4 p
  | df17NoneT5 p => exact df17NoneT5 p
  | df17NoneT6 p => exact df17NoneT6 p
  | df17NoneT7 p => exact df17NoneT7 p
  | df17NoneT8 p => exact df17NoneT8 p
  | df17AirposT9 p => exact df17AirposT9 p
  | df17AirposT10 p => exact df17AirposT10 p
  | df17AirposT11 p => exact df17AirposT11 p
  | df17AirposT12 p => exact df17AirposT12 p
  | df17AirposT13 p => exact df17AirposT13 p
  | df17AirposT14 p => exact df17AirposT14 p
  | df17AirposT15 p => exact df17AirposT15 p
  | df17AirposT16 p => exact df17AirposT16 p
  | df17AirposT17 p => exact df17AirposT17 p
  | df17AirposT18 p => exact df17AirposT18 p
  | df17NoneT19S0 p => exact df17NoneT19S0 p
  | df17VelGsT19S1 p => exact df17VelGsT19S1 p
  | df17VelGsT19S2 p => exact df17VelGsT19S2 p
  | df17VelHdgT19S3 p => exact df17VelHdgT19S3 p
  | df17VelHdgT19S4 p => exact df17VelHdgT19S4 p
  | df17NoneT19S5 p => exact df17NoneT19S5 p
  | df17NoneT19S6 p => exact df17NoneT19S6 p
  | df17NoneT19S7 p => exact df17NoneT19S7 p
  | df17NoneT20 p => exact df17NoneT20 p
  | df17NoneT21 p => exact df17NoneT21 p
  | df17NoneT22 p => exact df17NoneT22 p
  | df17NoneT23 p => exact df17NoneT23 p
  | df17NoneT24 p => exact df17NoneT24 p
  | df17NoneT25 p => exact df17NoneT25 p
  | df17NoneT26 p => exact df17NoneT26 p
  | df17NoneT27 p => exact df17NoneT27 p
  | df17NoneT28 p => exact df17NoneT28 p
  | df17NoneT29 p => exact df17NoneT29 p
  | df17NoneT30 p => exact df17NoneT30 p
  | df17NoneT31 p => exact df17NoneT31 p
  | df18Noes p => exact df18Noes p
  | df18NoneT0 p => exact df18NoneT0 p
  | df18IdentT1 p => exact df18IdentT1 p
  | df18IdentT2 p => exact df18IdentT2 p
  | df18IdentT3 p => exact df18IdentT3 p
  | df18IdentT4 p => exact df18IdentT4 p
  | df18NoneT5 p => exact df18NoneT5 p
  | df18NoneT6 p => exact df18NoneT6 p
  | df18NoneT7 p => exact df18NoneT7 p
  | df18NoneT8 p => exact df18NoneT8 p
  | df18AirposT9 p => exact df18AirposT9 p
  | df18AirposT10 p => exact df18AirposT10 p
  | df18AirposT11 p => exact df18AirposT11 p
  | df18AirposT12 p => exact df18AirposT12 p
  | df18AirposT13 p => exact df18AirposT13 p
  | df18AirposT14 p => exact df18AirposT14 p
  | df18AirposT15 p => exact df18AirposT15 p
  | df18AirposT16 p => exact df18AirposT16 p
  | df18AirposT17 p => exact df18AirposT17 p
  | df18AirposT18 p => exact df18AirposT18 p
  | df18NoneT19S0 p => exact df18NoneT19S0 p
  | df18VelGsT19S1 p => exact df18VelGsT19S1 p
  | df18VelGsT19S2 p => exact df18VelGsT19S2 p
  | df18VelHdgT19S3 p => exact df18VelHdgT19S3 p
  | df18VelHdgT19S4 p => exact df18VelHdgT19S4 p
  | df18NoneT19S5 p => exact df18NoneT19S5 p
  | df18NoneT19S6 p => exact df18NoneT19S6 p
  | df18NoneT19S7 p => exact df18NoneT19S7 p
  | df18NoneT20 p => exact df18NoneT20 p
  | df18NoneT21 p => exact df18NoneT21 p
  | df18NoneT22 p => exact df18NoneT22 p
  | df18NoneT23 p => exact df18NoneT23 p
  | df18NoneT24 p => exact df18NoneT24 p
  | df18NoneT25 p => exact df18NoneT25 p
  | df18NoneT26 p => exact df18NoneT26 p
  | df18NoneT27 p => exact df18NoneT27 p
  | df18NoneT28 p => exact df18NoneT28 p
  | df18NoneT29 p => exact df18NoneT29 p
  | df18NoneT30 p => exact df18NoneT30 p
  | df18NoneT31 p => exact df18NoneT31 p
  | df19 p => exact df19 p
  | df20 p => exact df20 p
  | df21 p => exact df21 p
  | df22 p => exact df22 p
  | df23 p => exact df23 p
  | df24 p => exact df24 p
  | df25 p => exact df25 p
  | df26 p => exact df26 p
  | df27 p => exact df27 p
  | df28 p => exact df28 p
  | df29 p => exact df29 p
  | df30 p => exact df30 p
  | df31 p => exact df31 p
  | nop => exact nop
  | decode p => exact decode p
  | statsRead => exact statsRead
  | statsReset => exact statsReset

end Sys2Proof.Laws.Classify
end

