-- ==== Sys2Proof/Tests/Slice0.lean ====
section
/-! SUPPORT. The model's own tests. Expected results are the worked examples of 95_test_vectors.md (S, V, K, A, E, G and M
numbers) and of the rules, not the model's answers. Then a witness for every statement that has hypotheses. -/

namespace Sys2Proof.Tests

open Machine

/-! ## Helpers -/

/-- A state like reset, whose host has one DECODE of `line` to issue. -/
def offering (line : Line) : State := { State.reset with moves := [.command ⟨0b01, line⟩] }

/-- The state one step later; reset where there is none. -/
def afterStep (s : State) : State :=
  match step s with
  | .next t => t
  | _ => State.reset

/-- The response to a DECODE of `line`. -/
def answer (line : Line) : Option Response := (afterStep (offering line)).res

/-- The envelope fields of an `OK` response as numbers: format, bit length, transmitted and computed checksum, address. -/
def envelopeOf (p : Payload) : Option (Nat × Nat × Nat × Nat × Nat) :=
  match answer (lineOf p) with
  | some (.ok e _) =>
    some (e.downlinkFormat.toNat, e.bitLength.toNat, e.crcValue.toNat, e.crcCalc.toNat, e.address.toNat)
  | _ => none

/-- The groups of an `OK` response. -/
def groupsIn (p : Payload) : Option Groups :=
  match answer (lineOf p) with
  | some (.ok _ g) => some g
  | _ => none

/-- The extended-squitter payload of an `OK` response. -/
def squitter (p : Payload) : Option EsPayload :=
  match groupsIn p with
  | some g => g.es.map (·.payload)
  | none => none

/-- The three counters after a DECODE of `line` from zero counters. -/
def counts (line : Line) : Nat × Nat × Nat :=
  let st := (afterStep (offering line)).stat
  (st.framesSeen.toNat, st.invalidFrames.toNat, st.crcFailures.toNat)

/-- The state of the vectors M2 to M6: counters 7, 2, 1 and a frame of the past in the buffer. -/
def counting : State := { State.reset with stat := ⟨7, 2, 1⟩, buf := frameOf [0x5D], n := 1 }

/-! ## WellFormed refuses, one ill-formed term for each check -/

theorem test_wf_other_format : wellFormed (.df4 [0x5D]) = false := by decide

theorem test_wf_other_metype : wellFormed (.df17IdentT4 [0x8D, 0, 0, 0, 0x28, 0, 0, 0, 0, 0, 0]) = false := by decide

theorem test_wf_other_mesub : wellFormed (.df17VelGsT19S1 [0x8D, 0, 0, 0, 0x9A, 0, 0, 0, 0, 0, 0]) = false := by decide

theorem test_wf_no_bytes : wellFormed (.df0 []) = false := by decide

theorem test_wf_fifteen_bytes : wellFormed (.df0 (List.replicate 15 0)) = false := by decide

theorem test_wf_squitter_of_ten : wellFormed (.df18IdentT4 [0x90, 0, 0, 0, 0x20, 0, 0, 0, 0, 0]) = false := by decide

theorem test_wf_noes_of_eleven : wellFormed (.df17Noes [0x8D, 0, 0, 0, 0x20, 0, 0, 0, 0, 0, 0]) = false := by decide

/-- A line that carries a frame is no `decode` instruction (V6). -/
theorem test_wf_decode_of_frame : wellFormed (.decode [0x2A, 0x30, 0x30, 0x3B]) = false := by decide

/-- Each condition of a well-formed line, by a line that fails it alone: first character, last character, 0 and 15 pairs, an
odd count, a character that is no digit. -/
theorem test_wire_line_refuses :
    [[0x2B, 0x30, 0x30, 0x3B], [0x2A, 0x30, 0x30, 0x3A], [0x2A, 0x3B], 0x2A :: List.replicate 30 0x30 ++ [0x3B],
      [0x2A, 0x30, 0x30, 0x30, 0x3B], [0x2A, 0x30, 0x67, 0x3B]].all (fun l => !isWireLine l) = true := by decide

/-! ## Decoding: every constructor, by a word written out from its row (30_encoding.md R99, R100) -/

/-- The four command codes. -/
theorem test_decode_commands :
    [decode ⟨0b00, []⟩, decode ⟨0b01, []⟩, decode ⟨0b10, []⟩, decode ⟨0b11, []⟩] =
      [.nop, .decode [], .statsRead, .statsReset] := by decide

/-- Formats 0 to 15, one byte each: `*00;`, `*08;` and so on. -/
theorem test_decode_short_lines_0 :
    [decode ⟨0b01, [0x2A, 0x30, 0x30, 0x3B]⟩,
     decode ⟨0b01, [0x2A, 0x30, 0x38, 0x3B]⟩,
     decode ⟨0b01, [0x2A, 0x31, 0x30, 0x3B]⟩,
     decode ⟨0b01, [0x2A, 0x31, 0x38, 0x3B]⟩,
     decode ⟨0b01, [0x2A, 0x32, 0x30, 0x3B]⟩,
     decode ⟨0b01, [0x2A, 0x32, 0x38, 0x3B]⟩,
     decode ⟨0b01, [0x2A, 0x33, 0x30, 0x3B]⟩,
     decode ⟨0b01, [0x2A, 0x33, 0x38, 0x3B]⟩,
     decode ⟨0b01, [0x2A, 0x34, 0x30, 0x3B]⟩,
     decode ⟨0b01, [0x2A, 0x34, 0x38, 0x3B]⟩,
     decode ⟨0b01, [0x2A, 0x35, 0x30, 0x3B]⟩,
     decode ⟨0b01, [0x2A, 0x35, 0x38, 0x3B]⟩,
     decode ⟨0b01, [0x2A, 0x36, 0x30, 0x3B]⟩,
     decode ⟨0b01, [0x2A, 0x36, 0x38, 0x3B]⟩,
     decode ⟨0b01, [0x2A, 0x37, 0x30, 0x3B]⟩,
     decode ⟨0b01, [0x2A, 0x37, 0x38, 0x3B]⟩] =
    [.df0 [0x00],
     .df1 [0x08],
     .df2 [0x10],
     .df3 [0x18],
     .df4 [0x20],
     .df5 [0x28],
     .df6 [0x30],
     .df7 [0x38],
     .df8 [0x40],
     .df9 [0x48],
     .df10 [0x50],
     .df11 [0x58],
     .df12 [0x60],
     .df13 [0x68],
     .df14 [0x70],
     .df15 [0x78]] := by decide

/-- Formats 16 to 31, one byte each; 17 and 18 then have no extended-squitter group. -/
theorem test_decode_short_lines_1 :
    [decode ⟨0b01, [0x2A, 0x38, 0x30, 0x3B]⟩,
     decode ⟨0b01, [0x2A, 0x38, 0x38, 0x3B]⟩,
     decode ⟨0b01, [0x2A, 0x39, 0x30, 0x3B]⟩,
     decode ⟨0b01, [0x2A, 0x39, 0x38, 0x3B]⟩,
     decode ⟨0b01, [0x2A, 0x61, 0x30, 0x3B]⟩,
     decode ⟨0b01, [0x2A, 0x61, 0x38, 0x3B]⟩,
     decode ⟨0b01, [0x2A, 0x62, 0x30, 0x3B]⟩,
     decode ⟨0b01, [0x2A, 0x62, 0x38, 0x3B]⟩,
     decode ⟨0b01, [0x2A, 0x63, 0x30, 0x3B]⟩,
     decode ⟨0b01, [0x2A, 0x63, 0x38, 0x3B]⟩,
     decode ⟨0b01, [0x2A, 0x64, 0x30, 0x3B]⟩,
     decode ⟨0b01, [0x2A, 0x64, 0x38, 0x3B]⟩,
     decode ⟨0b01, [0x2A, 0x65, 0x30, 0x3B]⟩,
     decode ⟨0b01, [0x2A, 0x65, 0x38, 0x3B]⟩,
     decode ⟨0b01, [0x2A, 0x66, 0x30, 0x3B]⟩,
     decode ⟨0b01, [0x2A, 0x66, 0x38, 0x3B]⟩] =
    [.df16 [0x80],
     .df17Noes [0x88],
     .df18Noes [0x90],
     .df19 [0x98],
     .df20 [0xA0],
     .df21 [0xA8],
     .df22 [0xB0],
     .df23 [0xB8],
     .df24 [0xC0],
     .df25 [0xC8],
     .df26 [0xD0],
     .df27 [0xD8],
     .df28 [0xE0],
     .df29 [0xE8],
     .df30 [0xF0],
     .df31 [0xF8]] := by decide

/-- Format 17, eleven bytes: `metype` 0 to 18. -/
theorem test_decode_squitter17_0 :
    [0x00, 0x08, 0x10, 0x18, 0x20, 0x28, 0x30, 0x38, 0x40, 0x48, 0x50, 0x58, 0x60, 0x68, 0x70, 0x78, 0x80, 0x88, 0x90].map (fun b => decode ⟨0b01, lineOf [0x88, 0, 0, 0, b, 0, 0, 0, 0, 0, 0]⟩) =
    [.df17NoneT0 [0x88, 0, 0, 0, 0x00, 0, 0, 0, 0, 0, 0],
     .df17IdentT1 [0x88, 0, 0, 0, 0x08, 0, 0, 0, 0, 0, 0],
     .df17IdentT2 [0x88, 0, 0, 0, 0x10, 0, 0, 0, 0, 0, 0],
     .df17IdentT3 [0x88, 0, 0, 0, 0x18, 0, 0, 0, 0, 0, 0],
     .df17IdentT4 [0x88, 0, 0, 0, 0x20, 0, 0, 0, 0, 0, 0],
     .df17NoneT5 [0x88, 0, 0, 0, 0x28, 0, 0, 0, 0, 0, 0],
     .df17NoneT6 [0x88, 0, 0, 0, 0x30, 0, 0, 0, 0, 0, 0],
     .df17NoneT7 [0x88, 0, 0, 0, 0x38, 0, 0, 0, 0, 0, 0],
     .df17NoneT8 [0x88, 0, 0, 0, 0x40, 0, 0, 0, 0, 0, 0],
     .df17AirposT9 [0x88, 0, 0, 0, 0x48, 0, 0, 0, 0, 0, 0],
     .df17AirposT10 [0x88, 0, 0, 0, 0x50, 0, 0, 0, 0, 0, 0],
     .df17AirposT11 [0x88, 0, 0, 0, 0x58, 0, 0, 0, 0, 0, 0],
     .df17AirposT12 [0x88, 0, 0, 0, 0x60, 0, 0, 0, 0, 0, 0],
     .df17AirposT13 [0x88, 0, 0, 0, 0x68, 0, 0, 0, 0, 0, 0],
     .df17AirposT14 [0x88, 0, 0, 0, 0x70, 0, 0, 0, 0, 0, 0],
     .df17AirposT15 [0x88, 0, 0, 0, 0x78, 0, 0, 0, 0, 0, 0],
     .df17AirposT16 [0x88, 0, 0, 0, 0x80, 0, 0, 0, 0, 0, 0],
     .df17AirposT17 [0x88, 0, 0, 0, 0x88, 0, 0, 0, 0, 0, 0],
     .df17AirposT18 [0x88, 0, 0, 0, 0x90, 0, 0, 0, 0, 0, 0]] := by decide

/-- Format 17, eleven bytes: `metype` 19 with each `mesub`, and 20 to 31. -/
theorem test_decode_squitter17_1 :
    [0x98, 0x99, 0x9A, 0x9B, 0x9C, 0x9D, 0x9E, 0x9F, 0xA0, 0xA8, 0xB0, 0xB8, 0xC0, 0xC8, 0xD0, 0xD8, 0xE0, 0xE8, 0xF0, 0xF8].map (fun b => decode ⟨0b01, lineOf [0x88, 0, 0, 0, b, 0, 0, 0, 0, 0, 0]⟩) =
    [.df17NoneT19S0 [0x88, 0, 0, 0, 0x98, 0, 0, 0, 0, 0, 0],
     .df17VelGsT19S1 [0x88, 0, 0, 0, 0x99, 0, 0, 0, 0, 0, 0],
     .df17VelGsT19S2 [0x88, 0, 0, 0, 0x9A, 0, 0, 0, 0, 0, 0],
     .df17VelHdgT19S3 [0x88, 0, 0, 0, 0x9B, 0, 0, 0, 0, 0, 0],
     .df17VelHdgT19S4 [0x88, 0, 0, 0, 0x9C, 0, 0, 0, 0, 0, 0],
     .df17NoneT19S5 [0x88, 0, 0, 0, 0x9D, 0, 0, 0, 0, 0, 0],
     .df17NoneT19S6 [0x88, 0, 0, 0, 0x9E, 0, 0, 0, 0, 0, 0],
     .df17NoneT19S7 [0x88, 0, 0, 0, 0x9F, 0, 0, 0, 0, 0, 0],
     .df17NoneT20 [0x88, 0, 0, 0, 0xA0, 0, 0, 0, 0, 0, 0],
     .df17NoneT21 [0x88, 0, 0, 0, 0xA8, 0, 0, 0, 0, 0, 0],
     .df17NoneT22 [0x88, 0, 0, 0, 0xB0, 0, 0, 0, 0, 0, 0],
     .df17NoneT23 [0x88, 0, 0, 0, 0xB8, 0, 0, 0, 0, 0, 0],
     .df17NoneT24 [0x88, 0, 0, 0, 0xC0, 0, 0, 0, 0, 0, 0],
     .df17NoneT25 [0x88, 0, 0, 0, 0xC8, 0, 0, 0, 0, 0, 0],
     .df17NoneT26 [0x88, 0, 0, 0, 0xD0, 0, 0, 0, 0, 0, 0],
     .df17NoneT27 [0x88, 0, 0, 0, 0xD8, 0, 0, 0, 0, 0, 0],
     .df17NoneT28 [0x88, 0, 0, 0, 0xE0, 0, 0, 0, 0, 0, 0],
     .df17NoneT29 [0x88, 0, 0, 0, 0xE8, 0, 0, 0, 0, 0, 0],
     .df17NoneT30 [0x88, 0, 0, 0, 0xF0, 0, 0, 0, 0, 0, 0],
     .df17NoneT31 [0x88, 0, 0, 0, 0xF8, 0, 0, 0, 0, 0, 0]] := by decide

/-- Format 18, eleven bytes: `metype` 0 to 18. -/
theorem test_decode_squitter18_0 :
    [0x00, 0x08, 0x10, 0x18, 0x20, 0x28, 0x30, 0x38, 0x40, 0x48, 0x50, 0x58, 0x60, 0x68, 0x70, 0x78, 0x80, 0x88, 0x90].map (fun b => decode ⟨0b01, lineOf [0x90, 0, 0, 0, b, 0, 0, 0, 0, 0, 0]⟩) =
    [.df18NoneT0 [0x90, 0, 0, 0, 0x00, 0, 0, 0, 0, 0, 0],
     .df18IdentT1 [0x90, 0, 0, 0, 0x08, 0, 0, 0, 0, 0, 0],
     .df18IdentT2 [0x90, 0, 0, 0, 0x10, 0, 0, 0, 0, 0, 0],
     .df18IdentT3 [0x90, 0, 0, 0, 0x18, 0, 0, 0, 0, 0, 0],
     .df18IdentT4 [0x90, 0, 0, 0, 0x20, 0, 0, 0, 0, 0, 0],
     .df18NoneT5 [0x90, 0, 0, 0, 0x28, 0, 0, 0, 0, 0, 0],
     .df18NoneT6 [0x90, 0, 0, 0, 0x30, 0, 0, 0, 0, 0, 0],
     .df18NoneT7 [0x90, 0, 0, 0, 0x38, 0, 0, 0, 0, 0, 0],
     .df18NoneT8 [0x90, 0, 0, 0, 0x40, 0, 0, 0, 0, 0, 0],
     .df18AirposT9 [0x90, 0, 0, 0, 0x48, 0, 0, 0, 0, 0, 0],
     .df18AirposT10 [0x90, 0, 0, 0, 0x50, 0, 0, 0, 0, 0, 0],
     .df18AirposT11 [0x90, 0, 0, 0, 0x58, 0, 0, 0, 0, 0, 0],
     .df18AirposT12 [0x90, 0, 0, 0, 0x60, 0, 0, 0, 0, 0, 0],
     .df18AirposT13 [0x90, 0, 0, 0, 0x68, 0, 0, 0, 0, 0, 0],
     .df18AirposT14 [0x90, 0, 0, 0, 0x70, 0, 0, 0, 0, 0, 0],
     .df18AirposT15 [0x90, 0, 0, 0, 0x78, 0, 0, 0, 0, 0, 0],
     .df18AirposT16 [0x90, 0, 0, 0, 0x80, 0, 0, 0, 0, 0, 0],
     .df18AirposT17 [0x90, 0, 0, 0, 0x88, 0, 0, 0, 0, 0, 0],
     .df18AirposT18 [0x90, 0, 0, 0, 0x90, 0, 0, 0, 0, 0, 0]] := by decide

/-- Format 18, eleven bytes: `metype` 19 with each `mesub`, and 20 to 31. -/
theorem test_decode_squitter18_1 :
    [0x98, 0x99, 0x9A, 0x9B, 0x9C, 0x9D, 0x9E, 0x9F, 0xA0, 0xA8, 0xB0, 0xB8, 0xC0, 0xC8, 0xD0, 0xD8, 0xE0, 0xE8, 0xF0, 0xF8].map (fun b => decode ⟨0b01, lineOf [0x90, 0, 0, 0, b, 0, 0, 0, 0, 0, 0]⟩) =
    [.df18NoneT19S0 [0x90, 0, 0, 0, 0x98, 0, 0, 0, 0, 0, 0],
     .df18VelGsT19S1 [0x90, 0, 0, 0, 0x99, 0, 0, 0, 0, 0, 0],
     .df18VelGsT19S2 [0x90, 0, 0, 0, 0x9A, 0, 0, 0, 0, 0, 0],
     .df18VelHdgT19S3 [0x90, 0, 0, 0, 0x9B, 0, 0, 0, 0, 0, 0],
     .df18VelHdgT19S4 [0x90, 0, 0, 0, 0x9C, 0, 0, 0, 0, 0, 0],
     .df18NoneT19S5 [0x90, 0, 0, 0, 0x9D, 0, 0, 0, 0, 0, 0],
     .df18NoneT19S6 [0x90, 0, 0, 0, 0x9E, 0, 0, 0, 0, 0, 0],
     .df18NoneT19S7 [0x90, 0, 0, 0, 0x9F, 0, 0, 0, 0, 0, 0],
     .df18NoneT20 [0x90, 0, 0, 0, 0xA0, 0, 0, 0, 0, 0, 0],
     .df18NoneT21 [0x90, 0, 0, 0, 0xA8, 0, 0, 0, 0, 0, 0],
     .df18NoneT22 [0x90, 0, 0, 0, 0xB0, 0, 0, 0, 0, 0, 0],
     .df18NoneT23 [0x90, 0, 0, 0, 0xB8, 0, 0, 0, 0, 0, 0],
     .df18NoneT24 [0x90, 0, 0, 0, 0xC0, 0, 0, 0, 0, 0, 0],
     .df18NoneT25 [0x90, 0, 0, 0, 0xC8, 0, 0, 0, 0, 0, 0],
     .df18NoneT26 [0x90, 0, 0, 0, 0xD0, 0, 0, 0, 0, 0, 0],
     .df18NoneT27 [0x90, 0, 0, 0, 0xD8, 0, 0, 0, 0, 0, 0],
     .df18NoneT28 [0x90, 0, 0, 0, 0xE0, 0, 0, 0, 0, 0, 0],
     .df18NoneT29 [0x90, 0, 0, 0, 0xE8, 0, 0, 0, 0, 0, 0],
     .df18NoneT30 [0x90, 0, 0, 0, 0xF0, 0, 0, 0, 0, 0, 0],
     .df18NoneT31 [0x90, 0, 0, 0, 0xF8, 0, 0, 0, 0, 0, 0]] := by decide

/-- The 40-bit words of opcode_table.json, through the host's entry (log entry 9). -/
theorem test_table_words :
    (decodeTableWord 40 0x0000000000 = some (.df0 (List.replicate 14 0))) ∧
    (decodeTableWord 40 0x8800000020 = some (.df17IdentT4 (0x88 :: 0 :: 0 :: 0 :: 0x20 :: List.replicate 9 0))) ∧
    (decodeTableWord 40 0x909D20239B = some (.df18VelHdgT19S3 (0x90 :: 0x9D :: 0x20 :: 0x23 :: 0x9B :: List.replicate 9 0))) ∧
    (decodeTableWord 8 2 = some .statsRead) ∧ (decodeTableWord 8 1 = some (.decode [])) := by decide

/-- Upper-case digits are read as lower-case ones are (V10). -/
theorem test_upper_case :
    validate [0x2A, 0x35, 0x44, 0x34, 0x44, 0x3B] = .loaded [0x5D, 0x4D] ∧
      validate [0x2A, 0x35, 0x64, 0x34, 0x64, 0x3B] = .loaded [0x5D, 0x4D] := by decide

/-! ## The validator (vectors V and S5) -/

/-- `Invalid`: the empty line, `*`, `;`, `x`, `**;;`, `*5d4;`, `*5g;`, `*zz;`, a line with a line feed at its end, 27 digits,
and 40 digits without the last `;` (S5, V1, V2, V7 to V9, V11, V14, V19). -/
theorem test_invalid :
    [[], [0x2A], [0x3B], [0x78], [0x2A, 0x2A, 0x3B, 0x3B],
      [0x2A, 0x35, 0x64, 0x34, 0x3B], [0x2A, 0x35, 0x67, 0x3B],
      [0x2A, 0x7A, 0x7A, 0x3B], [0x2A, 0x30, 0x30, 0x3B, 0x0A],
      0x2A :: List.replicate 27 0x30 ++ [0x3B], 0x2A :: List.replicate 40 0x30].all (fun l =>
      validate l == .raised .invalid) = true := by decide

/-- `TooShort`: `*;`, `*5;`, `*;;`, `*z;` (S5, V3 to V5, R122). -/
theorem test_too_short :
    [[0x2A, 0x3B], [0x2A, 0x35, 0x3B], [0x2A, 0x3B, 0x3B], [0x2A, 0x7A, 0x3B]].all (fun l =>
      validate l == .raised .tooShort) = true := by decide

/-- `TooLong`: 29 digits, 29 times `z`, 30 digits (V16 to V18). -/
theorem test_too_long :
    [0x2A :: List.replicate 29 0x30 ++ [0x3B], 0x2A :: List.replicate 29 0x7A ++ [0x3B],
      0x2A :: List.replicate 30 0x30 ++ [0x3B]].all (fun l => validate l == .raised .tooLong) = true := by decide

/-- 28 digits are the longest payload (V15), 2 the shortest (V6). -/
theorem test_accepted_lengths :
    validate (0x2A :: List.replicate 28 0x30 ++ [0x3B]) = .loaded (List.replicate 14 0) ∧
      validate [0x2A, 0x30, 0x30, 0x3B] = .loaded [0] := by decide

/-! ## Commands and counters (vectors M, programs P1, P2, P4) -/

/-- M5. -/
theorem test_nop : (match exec .nop counting with
    | .next t => t == { counting with res := some .empty, delivered := [.empty] }
    | _ => false) = true := by decide

/-- M2. -/
theorem test_stats_read : (match exec .statsRead counting with
    | .next t => t.res == some (.snapshot ⟨7, 2, 1⟩) && t.stat == ⟨7, 2, 1⟩
    | _ => false) = true := by decide

/-- M3: the buffer is not touched. -/
theorem test_stats_reset : (match exec .statsReset counting with
    | .next t => t.stat == ⟨0, 0, 0⟩ && t.res == some .empty && t.buf == counting.buf
    | _ => false) = true := by decide

/-- M6: a reset event, here one that finds a DECODE in progress. -/
theorem test_reset_event :
    let t := afterStep { counting with moves := [.reset (some ⟨0b01, [0x2A, 0x3B]⟩)] }
    t.stat = ⟨0, 0, 0⟩ ∧ t.res = none ∧ t.delivered = [] ∧ t.moves = [] := by decide

/-- M7: `frames_seen` saturated. -/
theorem test_saturation : (match exec (.decode [0x2A, 0x3B]) { State.reset with stat := ⟨0xFFFFFFFF, 5, 0⟩ } with
    | .next t => t.stat == ⟨0xFFFFFFFF, 6, 0⟩ && t.res == some (.error .tooShort)
    | _ => false) = true := by decide

/-- M8: a two-bit counter at its maximum stays there, and one below it reaches it. -/
theorem test_two_bit_counter : satInc (3 : BitVec 2) = 3 ∧ satInc (2 : BitVec 2) = 3 := by decide

/-- P4 step 1: the empty line is counted and is `Invalid`; nothing is loaded. -/
theorem test_decode_error : (match exec (.decode []) counting with
    | .next t => t.stat == ⟨8, 3, 1⟩ && t.res == some (.error .invalid) && t.buf == counting.buf && t.n == counting.n
    | _ => false) = true := by decide

/-- P2 step 2: a checksum mismatch is counted and is no error. -/
theorem test_mismatch_counts : counts (lineOf [0x7F, 0x4D, 0x20, 0x23, 0x58, 0x7F, 0x34, 0x5E, 0x35, 0x83, 0x7E, 0x22, 0x18, 0xB2]) = (1, 0, 1) := by decide +kernel

/-- S1: a frame that checks counts only `frames_seen`. -/
theorem test_match_counts : counts (lineOf [0x8F, 0x4D, 0x20, 0x23, 0x58, 0x7F, 0x34, 0x5E, 0x35, 0x83, 0x7E, 0x22, 0x18, 0xB2]) = (1, 0, 0) := by decide +kernel

/-! ## One frame of each downlink format (95_test_vectors.md 2.3) -/

/-- Formats 0 to 7: envelope and groups. -/
def formatFrames0 : List Payload :=
    [[0x02, 0xE1, 0x98, 0x38, 0x17, 0x5B, 0x11],
     [0x0D, 0x4D, 0x20, 0x23, 0x3A, 0xA4, 0x3A],
     [0x15, 0x4D, 0x20, 0x23, 0x25, 0x73, 0x80],
     [0x1D, 0x4D, 0x20, 0x23, 0x85, 0x6D, 0x11],
     [0x21, 0x4D, 0x2B, 0x90, 0x2E, 0x9C, 0x82],
     [0x2A, 0x4D, 0x20, 0x23, 0x69, 0x30, 0xDC],
     [0x35, 0x4D, 0x20, 0x23, 0xA5, 0x15, 0xDF],
     [0x3D, 0x4D, 0x20, 0x23, 0x05, 0x0B, 0x4E]]

theorem test_format_envelopes_0 : formatFrames0.map envelopeOf =
    [some (0, 56, 0x175b11, 0x175b11, 0xe19838),
     some (1, 56, 0x3aa43a, 0x3aa43a, 0x4d2023),
     some (2, 56, 0x257380, 0x257380, 0x4d2023),
     some (3, 56, 0x856d11, 0x856d11, 0x4d2023),
     some (4, 56, 0x2e9c82, 0x2e9c82, 0x4d2b90),
     some (5, 56, 0x6930dc, 0x6930dc, 0x4d2023),
     some (6, 56, 0xa515df, 0xa515df, 0x4d2023),
     some (7, 56, 0x050b4e, 0x050b4e, 0x4d2023)] := by decide +kernel

theorem test_format_groups_0 : formatFrames0.map groupsIn =
    [some { noGroups with ac13 := some ⟨false, true, .feet, some 38000⟩ },
     some noGroups,
     some noGroups,
     some noGroups,
     some { noGroups with fs := some ⟨1, 9, 41⟩, ac13 := some ⟨false, true, .feet, some 17400⟩ },
     some { noGroups with fs := some ⟨2, 9, 41⟩ },
     some noGroups,
     some noGroups] := by decide +kernel

/-- Formats 8 to 15: envelope and groups. -/
def formatFrames1 : List Payload :=
    [[0x45, 0x4D, 0x20, 0x23, 0x65, 0x82, 0x1C],
     [0x4D, 0x4D, 0x20, 0x23, 0xC5, 0x9C, 0x8D],
     [0x55, 0x4D, 0x20, 0x23, 0xDA, 0x4B, 0x37],
     [0x5D, 0x4D, 0x20, 0x23, 0x7A, 0x55, 0xA6],
     [0x65, 0x4D, 0x20, 0x23, 0xE5, 0xE4, 0x43],
     [0x6D, 0x4D, 0x20, 0x23, 0x45, 0xFA, 0xD2],
     [0x75, 0x4D, 0x20, 0x23, 0x5A, 0x2D, 0x68],
     [0x7D, 0x4D, 0x20, 0x23, 0xFA, 0x33, 0xF9]]

theorem test_format_envelopes_1 : formatFrames1.map envelopeOf =
    [some (8, 56, 0x65821c, 0x65821c, 0x4d2023),
     some (9, 56, 0xc59c8d, 0xc59c8d, 0x4d2023),
     some (10, 56, 0xda4b37, 0xda4b37, 0x4d2023),
     some (11, 56, 0x7a55a6, 0x7a55a6, 0x4d2023),
     some (12, 56, 0xe5e443, 0xe5e443, 0x4d2023),
     some (13, 56, 0x45fad2, 0x45fad2, 0x4d2023),
     some (14, 56, 0x5a2d68, 0x5a2d68, 0x4d2023),
     some (15, 56, 0xfa33f9, 0xfa33f9, 0x4d2023)] := by decide +kernel

theorem test_format_groups_1 : formatFrames1.map groupsIn =
    [some noGroups,
     some noGroups,
     some noGroups,
     some { noGroups with ca := some 5 },
     some noGroups,
     some noGroups,
     some noGroups,
     some noGroups] := by decide +kernel

/-- Formats 16 to 23: envelope and groups. -/
def formatFrames2 : List Payload :=
    [[0x80, 0xE1, 0x98, 0x38, 0x60, 0x1F, 0x3C, 0x2A, 0x00, 0x00, 0x00, 0xA9, 0x13, 0xE2],
     [0x8F, 0x4D, 0x20, 0x23, 0x58, 0x7F, 0x34, 0x5E, 0x35, 0x83, 0x7E, 0x22, 0x18, 0xB2],
     [0x90, 0x48, 0x40, 0xD6, 0x22, 0xDF, 0x51],
     [0x9D, 0x4D, 0x20, 0x23, 0x00, 0x00, 0x00, 0x00, 0x00, 0x00, 0x00, 0xFC, 0x5E, 0x72],
     [0xA1, 0x4D, 0x2B, 0x90, 0x10, 0x03, 0x0A, 0x80, 0xF5, 0x00, 0x00, 0x5B, 0xF8, 0x68],
     [0xA9, 0x4D, 0x20, 0x23, 0x20, 0x20, 0x20, 0x20, 0x20, 0x20, 0x20, 0xA4, 0x95, 0xCA],
     [0xB5, 0x4D, 0x20, 0x23, 0xA4, 0x90, 0xB8],
     [0xBD, 0x4D, 0x20, 0x23, 0x04, 0x8E, 0x29]]

theorem test_format_envelopes_2 : formatFrames2.map envelopeOf =
    [some (16, 112, 0xa913e2, 0xa913e2, 0xe19838),
     some (17, 112, 0x2218b2, 0x2218b2, 0x4d2023),
     some (18, 56, 0x22df51, 0x22df51, 0x4840d6),
     some (19, 112, 0xfc5e72, 0xfc5e72, 0x4d2023),
     some (20, 112, 0x5bf868, 0x5bf868, 0x4d2b90),
     some (21, 112, 0xa495ca, 0xa495ca, 0x4d2023),
     some (22, 56, 0xa490b8, 0xa490b8, 0x4d2023),
     some (23, 56, 0x048e29, 0x048e29, 0x4d2023)] := by decide +kernel

theorem test_format_groups_2 : formatFrames2.map groupsIn =
    [some { noGroups with ac13 := some ⟨false, true, .feet, some 38000⟩ },
     some { noGroups with es := some ⟨11, 0, .airPos ⟨true, false, true, .feet, some 24275, 12058, 99198⟩⟩ },
     some noGroups,
     some noGroups,
     some { noGroups with fs := some ⟨1, 9, 41⟩, ac13 := some ⟨false, true, .feet, some 17400⟩ },
     some { noGroups with fs := some ⟨1, 9, 41⟩ },
     some noGroups,
     some noGroups] := by decide +kernel

/-- Formats 24 to 31: envelope and groups. -/
def formatFrames3 : List Payload :=
    [[0xC5, 0x4D, 0x20, 0x23, 0x64, 0x07, 0x7B],
     [0xCD, 0x4D, 0x20, 0x23, 0xC4, 0x19, 0xEA],
     [0xD5, 0x4D, 0x20, 0x23, 0xDB, 0xCE, 0x50],
     [0xDD, 0x4D, 0x20, 0x23, 0x7B, 0xD0, 0xC1],
     [0xE5, 0x4D, 0x20, 0x23, 0xE4, 0x61, 0x24],
     [0xED, 0x4D, 0x20, 0x23, 0x44, 0x7F, 0xB5],
     [0xF5, 0x4D, 0x20, 0x23, 0x5B, 0xA8, 0x0F],
     [0xFD, 0x4D, 0x20, 0x23, 0xFB, 0xB6, 0x9E]]

theorem test_format_envelopes_3 : formatFrames3.map envelopeOf =
    [some (24, 56, 0x64077b, 0x64077b, 0x4d2023),
     some (25, 56, 0xc419ea, 0xc419ea, 0x4d2023),
     some (26, 56, 0xdbce50, 0xdbce50, 0x4d2023),
     some (27, 56, 0x7bd0c1, 0x7bd0c1, 0x4d2023),
     some (28, 56, 0xe46124, 0xe46124, 0x4d2023),
     some (29, 56, 0x447fb5, 0x447fb5, 0x4d2023),
     some (30, 56, 0x5ba80f, 0x5ba80f, 0x4d2023),
     some (31, 56, 0xfbb69e, 0xfbb69e, 0x4d2023)] := by decide +kernel

theorem test_format_groups_3 : formatFrames3.map groupsIn =
    [some noGroups,
     some noGroups,
     some noGroups,
     some noGroups,
     some noGroups,
     some noGroups,
     some noGroups,
     some noGroups] := by decide +kernel

/-! ## The checksum (vectors K, S2, S9) -/

/-- K2: only message bit 0. K4: all ones, short framing. K7: bytes beyond the short framing. K8: one byte, zero fill. S2: 14 bytes in a short framing. S9: first checksum bit flipped. G3: format 18 is framed as 56 bits. -/
theorem test_checksums :
    [[0x80, 0x00, 0x00, 0x00, 0x00, 0x00, 0x00, 0x00, 0x00, 0x00, 0x00, 0x00, 0x00, 0x00],
     [0xFF, 0xFF, 0xFF, 0xFF, 0xFF, 0xFF, 0xFF],
     [0x5D, 0x4D, 0x20, 0x23, 0x7A, 0x55, 0xA6, 0xFF, 0xFF, 0xFF, 0xFF, 0xFF, 0xFF, 0xFF],
     [0x5D],
     [0x7F, 0x4D, 0x20, 0x23, 0x58, 0x7F, 0x34, 0x5E, 0x35, 0x83, 0x7E, 0x22, 0x18, 0xB2],
     [0x8F, 0x4D, 0x20, 0x23, 0x58, 0x7F, 0x34, 0x5E, 0x35, 0x83, 0x7E, 0xA2, 0x18, 0xB2],
     [0x90, 0x48, 0x40, 0xD6, 0x20, 0x2C, 0xC3, 0x71, 0xC3, 0x2C, 0xE0, 0x00, 0x00, 0x00]].map envelopeOf =
    [some (16, 112, 0x000000, 0x3935ea, 0x000000),
     some (31, 56, 0xffffff, 0xfef9ba, 0xffffff),
     some (11, 56, 0x7a55a6, 0x7a55a6, 0x4d2023),
     some (11, 56, 0x000000, 0x64e712, 0x000000),
     some (15, 56, 0x587f34, 0xadc95f, 0x4d2023),
     some (17, 112, 0xa218b2, 0x2218b2, 0x4d2023),
     some (18, 56, 0x202cc3, 0x22df51, 0x4840d6)] := by decide +kernel

/-! ## Altitudes and presence by length (vectors A) -/

/-- A1 to A11: the eleven-bit value and the three bits M and Q part, the corners, and the absent altitudes. -/
theorem test_ac13_corners :
    [[0x02, 0xE1, 0x00, 0x10], [0x02, 0xE1, 0x00, 0x30], [0x02, 0xE1, 0x00, 0x90], [0x02, 0xE1, 0x00, 0x98], [0x02, 0xE1, 0x00, 0x99], [0x02, 0xE1, 0x01, 0x10], [0x02, 0xE1, 0x18, 0x38], [0x02, 0xE1, 0x1F, 0xBF], [0x02, 0xE1, 0x18, 0x78], [0x02, 0xE1, 0x18, 0x28], [0x02, 0xE1, 0x18, 0x68]].map (fun p => ac13Fields (frameOf p)) =
    [⟨false, true, .feet, some (-1000)⟩,
     ⟨false, true, .feet, some (-600)⟩,
     ⟨false, true, .feet, some (-200)⟩,
     ⟨false, true, .feet, some (0)⟩,
     ⟨false, true, .feet, some (25)⟩,
     ⟨false, true, .feet, some (600)⟩,
     ⟨false, true, .feet, some (38000)⟩,
     ⟨false, true, .feet, some (50175)⟩,
     ⟨true, true, .metres, none⟩,
     ⟨false, false, .feet, none⟩,
     ⟨true, false, .metres, none⟩] := by decide

/-- A12 to A15: format 4 with 1 to 4 bytes. -/
theorem test_presence_by_length :
    groupsIn [0x20] = some noGroups ∧ groupsIn [0x21, 0x4D] = some noGroups ∧
    groupsIn [0x21, 0x4D, 0x2B] = some { noGroups with fs := some ⟨1, 9, 41⟩ } ∧
    groupsIn [0x20, 0, 0, 0] =
      some { noGroups with fs := some ⟨0, 0, 0⟩, ac13 := some ⟨false, false, .feet, none⟩ } := by decide +kernel

/-! ## Extended squitter (vectors E and G) -/

/-- E1: `KLM1023` and a space. E6: eight codes 0. E7: eight codes 32, `metype` 1. -/
theorem test_ident :
    [[0x8D, 0x48, 0x40, 0xD6, 0x20, 0x2C, 0xC3, 0x71, 0xC3, 0x2C, 0xE0, 0x57, 0x60, 0x98],
     [0x8D, 0x4D, 0x20, 0x23, 0x20, 0x00, 0x00, 0x00, 0x00, 0x00, 0x00, 0xF4, 0xA3, 0x8B],
     [0x8D, 0x4D, 0x20, 0x23, 0x08, 0x82, 0x08, 0x20, 0x82, 0x08, 0x20, 0xFB, 0x38, 0xBA]].map squitter =
    [some (.ident ⟨#[0x4B, 0x4C, 0x4D, 0x31, 0x30, 0x32, 0x33, 0x20], rfl⟩),
     some (.ident ⟨#[0x3F, 0x3F, 0x3F, 0x3F, 0x3F, 0x3F, 0x3F, 0x3F], rfl⟩),
     some (.ident ⟨#[0x20, 0x20, 0x20, 0x20, 0x20, 0x20, 0x20, 0x20], rfl⟩)] := by decide +kernel

/-- E2. E3. E9: the altitude is absent, the zeros are present. E11. -/
theorem test_airpos :
    [[0x8D, 0x40, 0x62, 0x1D, 0x58, 0xC3, 0x82, 0xD6, 0x90, 0xC8, 0xAC, 0x28, 0x63, 0xA7],
     [0x8D, 0x40, 0x62, 0x1D, 0x58, 0xC3, 0x86, 0x43, 0x5C, 0xC4, 0x12, 0x69, 0x2A, 0xD6],
     [0x8D, 0x4D, 0x20, 0x23, 0x48, 0x00, 0x00, 0x00, 0x00, 0x00, 0x00, 0x87, 0x3A, 0xD4],
     [0x8D, 0x4D, 0x20, 0x23, 0x90, 0xFF, 0xFF, 0xFF, 0xFF, 0xFF, 0xFF, 0x37, 0xD2, 0x52]].map squitter =
    [some (.airPos ⟨false, false, true, .feet, some 38000, 93000, 51372⟩),
     some (.airPos ⟨true, false, true, .feet, some 38000, 74158, 50194⟩),
     some (.airPos ⟨false, false, false, .feet, none, 0, 0⟩),
     some (.airPos ⟨true, true, true, .feet, some 50175, 131071, 131071⟩)] := by decide +kernel

/-- E4. E12. E13. E14. E15. E16. E18. E19. E20. -/
theorem test_vel_gs :
    [[0x8D, 0x48, 0x50, 0x20, 0x99, 0x44, 0x09, 0x94, 0x08, 0x38, 0x17, 0x5B, 0x28, 0x4F],
     [0x8D, 0x4D, 0x20, 0x23, 0x99, 0x00, 0x00, 0x00, 0x00, 0x00, 0x00, 0xBC, 0x72, 0x9D],
     [0x8D, 0x4D, 0x20, 0x23, 0x9A, 0x03, 0xFF, 0x7F, 0xE0, 0x00, 0x00, 0xA9, 0xDB, 0x3C],
     [0x8D, 0x4D, 0x20, 0x23, 0x99, 0x00, 0x03, 0x00, 0x80, 0x00, 0x00, 0x53, 0x69, 0x62],
     [0x8D, 0x4D, 0x20, 0x23, 0x99, 0x04, 0x03, 0x00, 0x80, 0x00, 0x00, 0x78, 0x19, 0x38],
     [0x8D, 0x4D, 0x20, 0x23, 0x99, 0x00, 0x03, 0x80, 0x80, 0x00, 0x00, 0x52, 0xEC, 0x05],
     [0x8D, 0x4D, 0x20, 0x23, 0x99, 0x04, 0x05, 0x80, 0xA0, 0x00, 0x00, 0x36, 0xDE, 0xD2],
     [0x8D, 0x4D, 0x20, 0x23, 0x99, 0x04, 0x05, 0x00, 0x00, 0x00, 0x00, 0x98, 0x23, 0x31],
     [0x8D, 0x4D, 0x20, 0x23, 0x99, 0x00, 0x00, 0x80, 0x20, 0x00, 0x00, 0xF8, 0x8B, 0xD3]].map squitter =
    [some (.velGs ⟨true, 9, true, 160, false, true, 14, 160, 183⟩),
     some (.velGs ⟨false, 0, false, 0, false, false, 0, 0, 0⟩),
     some (.velGs ⟨false, 1023, false, 1023, false, false, 0, 1446, 45⟩),
     some (.velGs ⟨false, 3, false, 4, false, false, 0, 5, 36⟩),
     some (.velGs ⟨true, 3, false, 4, false, false, 0, 5, 323⟩),
     some (.velGs ⟨false, 3, true, 4, false, false, 0, 5, 143⟩),
     some (.velGs ⟨true, 5, true, 5, false, false, 0, 7, 225⟩),
     some (.velGs ⟨true, 5, false, 0, false, false, 0, 5, 270⟩),
     some (.velGs ⟨false, 0, true, 1, false, false, 0, 1, 180⟩)] := by decide +kernel

/-- E5. E21: computed although not valid. E22. -/
theorem test_vel_hdg :
    [[0x8D, 0xA0, 0x5F, 0x21, 0x9B, 0x06, 0xB6, 0xAF, 0x18, 0x94, 0x00, 0xCB, 0xC3, 0x3F],
     [0x8D, 0x4D, 0x20, 0x23, 0x9B, 0x03, 0xF8, 0x00, 0x00, 0x00, 0x00, 0xEA, 0x6E, 0x9C],
     [0x8D, 0x4D, 0x20, 0x23, 0x9C, 0x00, 0x00, 0x00, 0x00, 0x00, 0x00, 0xEE, 0x0B, 0xA4]].map squitter =
    [some (.velHdg ⟨true, 86, 3870⟩),
     some (.velHdg ⟨false, 127, 5715⟩),
     some (.velHdg ⟨false, 0, 0⟩)] := by decide +kernel

/-- E24 to E28: no sub-decoder. -/
theorem test_squitter_none :
    [[0x8D, 0x4D, 0x20, 0x23, 0x00, 0xFF, 0xFF, 0xFF, 0xFF, 0xFF, 0xFF, 0x30, 0xAC, 0x60],
     [0x8D, 0x4D, 0x20, 0x23, 0x28, 0xFF, 0xFF, 0xFF, 0xFF, 0xFF, 0xFF, 0xA3, 0x79, 0xB3],
     [0x8D, 0x4D, 0x20, 0x23, 0x98, 0xFF, 0xFF, 0xFF, 0xFF, 0xFF, 0xFF, 0xD4, 0x21, 0xC7],
     [0x8D, 0x4D, 0x20, 0x23, 0x9D, 0xFF, 0xFF, 0xFF, 0xFF, 0xFF, 0xFF, 0x86, 0x58, 0xFE],
     [0x8D, 0x4D, 0x20, 0x23, 0xE8, 0xFF, 0xFF, 0xFF, 0xFF, 0xFF, 0xFF, 0x7C, 0x58, 0x2E]].map (fun p => (groupsIn p).bind (·.es)) =
    [some ⟨0, 0, .none⟩, some ⟨5, 0, .none⟩, some ⟨19, 0, .none⟩, some ⟨19, 5, .none⟩, some ⟨29, 0, .none⟩] := by
  decide +kernel

/-- G1, G2, G4 to G6: the gate. -/
theorem test_squitter_gate :
    [[0x8D, 0x48, 0x40, 0xD6, 0x20, 0x2C, 0xC3, 0x71, 0xC3, 0x2C, 0xE0],
     [0x8D, 0x48, 0x40, 0xD6, 0x20, 0x2C, 0xC3, 0x71, 0xC3, 0x2C],
     [0x90, 0x48, 0x40, 0xD6, 0x20, 0x2C, 0xC3, 0x71, 0xC3, 0x2C, 0xE0],
     [0x90, 0x48, 0x40, 0xD6, 0x22, 0xDF, 0x51],
     [0x9D, 0x48, 0x40, 0xD6, 0x20, 0x2C, 0xC3, 0x71, 0xC3, 0x2C, 0xE0, 0x57, 0x60, 0x98]].map (fun p => (groupsIn p).map fun g => g.es.isSome) =
    [some true, some false, some true, some false, some false] := by decide +kernel

/-- The squares next to a floor: 0, 1, 2, 3, 4, and 1446 squared less one (R225). -/
theorem test_isqrt : [0, 1, 2, 3, 4, 25681, 2090915, 2090916, 2093058].map isqrt =
    [0, 1, 1, 1, 2, 160, 1445, 1446, 1446] := by decide

/-! ## Steps -/

/-- One step takes one whole command: program P1, step 3, with STATS_READ still waiting. -/
theorem test_step_one_command :
    let t := afterStep { State.reset with stat := ⟨1, 1, 0⟩, moves := [.command ⟨0b01, lineOf [0x5D, 0x4D, 0x20, 0x23, 0x7A, 0x55, 0xA6]⟩, .command ⟨0b10, []⟩] }
    t.stat = ⟨2, 1, 0⟩ ∧ t.moves = [.command ⟨0b10, []⟩] ∧ t.delivered.length = 1 ∧ t.n = 7 := by decide +kernel

/-- Idle. -/
theorem test_idle : step counting = .next counting := by rfl

/-- The host's entry: the placed word is the very next command. -/
theorem test_with_fetch_word :
    (match step (State.withFetchWord State.reset 40 0x5800000000), exec (.df11 (0x58 :: List.replicate 13 0)) State.reset with
      | .next t, .next u => t == u
      | _, _ => false) = true := by decide +kernel
/-! ## Witnesses: states and operands that meet each statement's hypotheses -/

/-- Three lines: a rejected one, one whose checksum differs, one that checks. -/
def sampleLines : List Line :=
  [[0x2A, 0x3B], lineOf [0x5D], lineOf [0x5D, 0x4D, 0x20, 0x23, 0x7A, 0x55, 0xA6]]

/-- A sound state in the middle of things, with moves waiting: a NOP, a DECODE, a reset. -/
def busy : State :=
  { counting with
    res := some .empty
    moves := [.command ⟨0b00, []⟩, .command ⟨0b01, [0x2A, 0x3B]⟩, .reset none]
    delivered := [.empty, .error .invalid, .snapshot ⟨7, 2, 1⟩] }

theorem witness_StepKeepsInvariant : SoundState busy ∧ ∃ t, step busy = .next t := by
  refine ⟨⟨by unfold CountersOrdered; decide, ⟨by decide, by decide⟩, ?_, ?_⟩, _, rfl⟩
  · rintro r ⟨⟩
    trivial
  · intro r hr
    simp only [busy, List.mem_cons, List.not_mem_nil, or_false] at hr
    rcases hr with rfl | rfl | rfl
    · trivial
    · trivial
    · show CountersOrdered _
      unfold CountersOrdered
      decide

/-- A NOP, and a rejected line on a saturated `frames_seen`. -/
theorem witness_CountersFallOnlyByReset :
    (∃ t, step busy = .next t ∧ (∀ a rest, busy.moves ≠ .reset a :: rest) ∧
      ∀ w rest, busy.moves = .command w :: rest → w.code ≠ 0b11) ∧
    (∃ s t, step s = .next t ∧ s.stat.framesSeen = BitVec.allOnes 32 ∧ (∀ a rest, s.moves ≠ .reset a :: rest) ∧
      ∀ w rest, s.moves = .command w :: rest → w.code ≠ 0b11) := by
  refine ⟨⟨_, rfl, by simp [busy], ?_⟩,
    ⟨{ offering [0x2A, 0x3B] with stat := ⟨BitVec.allOnes 32, 5, 0⟩ }, _, rfl, rfl, by simp [offering], ?_⟩⟩
  · rintro w rest h
    simp [busy] at h
    simp [← h.1]
  · rintro w rest h
    simp [offering] at h
    simp [← h.1]

/-- The four codes and the reset event, each presented to a state: the clauses of the three counters' statements, of the
response and of the buffer. -/
theorem witness_commands_and_reset :
    (∀ code : BitVec 2, ∃ (s : State) (w : CommandWord) (rest : List HostMove), s.moves = .command w :: rest ∧ w.code = code) ∧
      ∃ (s : State) (a : Option CommandWord) (rest : List HostMove), s.moves = .reset a :: rest :=
  ⟨fun code => ⟨{ counting with moves := [.command ⟨code, []⟩] }, _, _, rfl, rfl⟩,
    ⟨{ counting with moves := [.reset none] }, _, _, rfl⟩⟩

/-- The sample lines: rejected; accepted and mismatching; accepted and matching. -/
theorem witness_sample_lines :
    sampleLines.map rejects = [true, false, false] ∧ sampleLines.map mismatches = [false, true, false] := by
  decide +kernel

/-- The moves of `SnapshotCountsTheDecodes`, with one line of each kind. -/
theorem witness_SnapshotCountsTheDecodes :
    ∃ s : State, s.moves = .command ⟨0b11, []⟩ :: (sampleLines.map fun l => .command ⟨0b01, l⟩)
      ++ .command ⟨0b10, []⟩ :: [] :=
  ⟨{ counting with moves := _ }, rfl⟩

/-- A line for each of the three errors. -/
theorem witness_RejectedLineRaisesAndLoadsNothing :
    validate [] = .raised .invalid ∧ validate [0x2A, 0x3B] = .raised .tooShort ∧
      validate (0x2A :: List.replicate 29 0x30 ++ [0x3B]) = .raised .tooLong := by decide

/-- The clauses of `ValidatorTestsEndsThenLength`: a line of one `*`, which has no two ends; 0, 1 and 29 characters. -/
theorem witness_ValidatorTestsEndsThenLength :
    (∀ pay : List Byte, ([0x2A] : Line) ≠ 0x2A :: pay ++ [0x3B]) ∧ ([] : List Byte).length ≤ 1 ∧
      ([0x7A] : List Byte).length ≤ 1 ∧ 28 < (List.replicate 29 (0x7A : Byte)).length :=
  ⟨by simp, by decide, by decide, by decide⟩

/-- Payloads of 2 and 28 characters that are digits, of 3 that are, and of 28 of which one is not. -/
theorem witness_OddOrNonHexPayloadIsInvalid :
    (2 ≤ ([0x30, 0x30] : List Byte).length ∧ validate [0x2A, 0x30, 0x30, 0x3B] = .loaded [0]) ∧
      (2 ≤ ([0x30, 0x30, 0x30] : List Byte).length ∧ validate [0x2A, 0x30, 0x30, 0x30, 0x3B] = .raised .invalid) ∧
      ((List.replicate 27 (0x30 : Byte) ++ [0x67]).length ≤ 28 ∧
        validate (0x2A :: (List.replicate 27 0x30 ++ [0x67]) ++ [0x3B]) = .raised .invalid) := by
  decide +kernel

/-- One pair, and fourteen, of the first and last digits of each range. -/
theorem witness_HexPairsLoadTheirBytes :
    [((0x46 : Byte), (0x66 : Byte))].all (fun c => isHexDigit c.1 && isHexDigit c.2) = true ∧
      (List.replicate 14 ((0x30 : Byte), (0x39 : Byte))).all (fun c => isHexDigit c.1 && isHexDigit c.2) = true ∧
      (List.replicate 14 ((0x30 : Byte), (0x39 : Byte))).length ≤ 14 := by decide

/-- The ends of the three ranges of digits, and the codes beside them. -/
theorem witness_HexDigitsHaveTheirValues :
    ([0x30, 0x39, 0x41, 0x46, 0x61, 0x66] : List Byte).all isHexDigit = true ∧
      ([0x2F, 0x3A, 0x40, 0x47, 0x60, 0x67] : List Byte).any isHexDigit = false := by decide

/-- A payload the class admits, from its row: the match, with as many bytes as its condition asks. -/
def rowPayload (i : Instr) : Payload :=
  match classRow i with
  | some (r, _) => (List.range r.nMin).map fun k => if k < 5 then r.want.extractLsb' (8 * (4 - k)) 8 else 0
  | none => []

/-- Every class of every list has a well-formed instruction. -/
theorem witness_classes :
    (envelopeOnlyClasses ++ identClasses ++ airposClasses ++ velGsClasses ++ velHdgClasses ++ noneClasses).all (fun c =>
      wellFormed (c.1 (rowPayload (c.1 [])))) = true := by decide +kernel

/-- Every clause of `SurveillanceHasFlightStatus` and `AltitudeRepliesHaveAltitude` at the lengths where they meet: 2 and 3
bytes, 3 and 4 bytes; M and Q in all four ways. -/
theorem witness_surveillance :
    WellFormed (.df4 [0x20, 0]) ∧ WellFormed (.df5 [0x28, 0, 0]) ∧ WellFormed (.df20 [0xA0, 0, 0]) ∧
      WellFormed (.df21 [0xA8, 0, 0]) ∧ WellFormed (.df0 [0, 0, 0]) ∧ WellFormed (.df0 [0, 0, 0, 0x10]) ∧
      WellFormed (.df16 [0x80, 0, 0, 0x50]) ∧ WellFormed (.df4 [0x20, 0, 0, 0x40]) ∧ WellFormed (.df20 [0xA0, 0, 0, 0]) ∧
      WellFormed (.df11 [0x5F]) := by decide

/-- Both clauses about the 12-bit altitude. -/
theorem witness_airborne_altitude :
    (airPosFields (frameOf [0x8D, 0, 0, 0, 0x48, 1])).ac12Q = true ∧
      (airPosFields (frameOf [0x8D, 0, 0, 0, 0x48, 0])).ac12Q = false := by decide

/-- Both ends of the altitudes' range, in both groups. -/
theorem witness_AltitudesLieInTheirRange :
    (ac13Fields (frameOf [2, 0xE1, 0, 0x10])).altitude = some (-1000) ∧
      (ac13Fields (frameOf [2, 0xE1, 0x1F, 0xBF])).altitude = some 50175 ∧
      (airPosFields (frameOf [0x8D, 0, 0, 0, 0x48, 1])).ac12Altitude = some (-1000) ∧
      (airPosFields (frameOf [0x8D, 0, 0, 0, 0x90, 0xFF, 0xFF])).ac12Altitude = some 50175 := by decide

/-- Zero speed, and speeds with a zero component and without. -/
theorem witness_headings :
    ((0 : BitVec 10) = 0 ∧ (0 : BitVec 10) = 0) ∧ ¬ ((0 : BitVec 10) = 0 ∧ (1 : BitVec 10) = 0) ∧
      ¬ ((1023 : BitVec 10) = 0 ∧ (1023 : BitVec 10) = 0) ∧ (1 : BitVec 10) ≠ 0 := by decide

/-- Both branches of the table's recurrence, at its ends. -/
theorem witness_CrcTableFollowsThePolynomial :
    ¬ Config.crcTable.getD 87 0 < 0x800000 ∧ Config.crcTable.getD 86 0 < 0x800000 ∧
      Config.crcTable.getD 1 0 < 0x800000 := by decide

/-- The block's table ends in zeros. -/
theorem witness_CrcSumsTheSetBits_table : ∀ k, 88 ≤ k → Config.crcTable.getD k 0 = 0 := by
  intro k h
  rcases Nat.lt_or_ge k 112 with h2 | h2
  · exact (by decide : ∀ k, k < 112 → 88 ≤ k → Config.crcTable.getD k 0 = 0) k h2 h
  · exact List.getD_eq_default _ _ (show Config.crcTable.length ≤ k from h2)

/-- Frames with one set bit: the first and last of a long frame, the last of a short one. -/
theorem witness_CrcSumsTheSetBits :
    (∀ k, k < 112 → (messageBit (frameOf [0x80]) k = true ↔ k = 0)) ∧ 0 < formatBits .long112 ∧
      (∀ k, k < 112 → (messageBit (frameOf (List.replicate 13 0 ++ [1])) k = true ↔ k = 111)) ∧
      111 < formatBits .long112 ∧
      (∀ k, k < 112 → (messageBit (frameOf [0, 0, 0, 0, 0, 0, 1]) k = true ↔ k = 55)) ∧ 55 < formatBits .short56 := by
  decide +kernel

/-- A short and a long frame with their checksums appended: S3 and S1. -/
theorem witness_AppendedChecksumVerifies :
    (([0x5D, 0x4D, 0x20, 0x23] : List Byte).length = formatBytes .short56 - 3 ∧
      formatOf (downlinkFormat (frameOf [0x5D, 0x4D, 0x20, 0x23])) = .short56 ∧
      validate (lineOf [0x5D, 0x4D, 0x20, 0x23, 0x7A, 0x55, 0xA6]) =
        .loaded ([0x5D, 0x4D, 0x20, 0x23] ++ checksumBytes (crcCalc .short56 (frameOf [0x5D, 0x4D, 0x20, 0x23])))) ∧
    (formatOf (downlinkFormat (frameOf [0x8F, 0x4D, 0x20, 0x23, 0x58, 0x7F, 0x34, 0x5E, 0x35, 0x83, 0x7E])) = .long112 ∧
      validate (lineOf [0x8F, 0x4D, 0x20, 0x23, 0x58, 0x7F, 0x34, 0x5E, 0x35, 0x83, 0x7E, 0x22, 0x18, 0xB2]) =
        .loaded ([0x8F, 0x4D, 0x20, 0x23, 0x58, 0x7F, 0x34, 0x5E, 0x35, 0x83, 0x7E] ++ checksumBytes (crcCalc .long112
          (frameOf [0x8F, 0x4D, 0x20, 0x23, 0x58, 0x7F, 0x34, 0x5E, 0x35, 0x83, 0x7E])))) := by
  decide +kernel

/-- S3 with the last bit of its checksum flipped. -/
theorem witness_AlteredChecksumIsSeen :
    let X := frameOf [0x5D, 0x4D, 0x20, 0x23, 0x7A, 0x55, 0xA6]
    let Y := frameOf [0x5D, 0x4D, 0x20, 0x23, 0x7A, 0x55, 0xA7]
    (1 : Crc24) ≠ 0 ∧ crcValid .short56 X = true ∧ (∀ i, i < formatBytes .short56 - 3 → Y.byte i = X.byte i) ∧
      crcValue .short56 Y = crcValue .short56 X ^^^ 1 := by decide +kernel

/-- K7 beside S3: the same seven framed bytes. -/
theorem witness_ChecksumReadsTheFramedBytesOnly :
    let p : Payload := [0x5D, 0x4D, 0x20, 0x23, 0x7A, 0x55, 0xA6]
    let p' : Payload := [0x5D, 0x4D, 0x20, 0x23, 0x7A, 0x55, 0xA6, 0xFF]
    validate (lineOf p) = .loaded p ∧ validate (lineOf p') = .loaded p' ∧
      formatOf (downlinkFormat (frameOf p)) = .short56 ∧
      ∀ i, i < formatBytes .short56 → p.getD i 0 = p'.getD i 0 := by decide

/-- S2. -/
theorem witness_MismatchIsNoError :
    mismatches (lineOf [0x7F, 0x4D, 0x20, 0x23, 0x58, 0x7F, 0x34, 0x5E, 0x35, 0x83, 0x7E, 0x22, 0x18, 0xB2]) = true := by
  decide +kernel

/-- A well-formed instruction of each kind. -/
theorem witness_DecodeOfEncode :
    WellFormed .nop ∧ WellFormed (.decode [0x2A, 0x3B]) ∧ WellFormed .statsRead ∧ WellFormed .statsReset ∧
      WellFormed (.df31 (List.replicate 14 0xFF)) ∧
      WellFormed (.df17IdentT4 [0x8D, 0x48, 0x40, 0xD6, 0x20, 0x2C, 0xC3, 0x71, 0xC3, 0x2C, 0xE0]) := by decide

/-- Payloads at both bounds. -/
theorem witness_RowsCoverEveryFrameOnce :
    1 ≤ ([0] : Payload).length ∧ (List.replicate 14 (0 : Byte)).length ≤ 14 := by decide

/-- A line that carries a frame of each kind the class map tells apart: by format, by length, by `metype`, by `mesub`. -/
theorem witness_DecodeRunsItsFrameClass :
    [[0x5D], [0x8D], [0x8D, 0, 0, 0, 0x20, 0, 0, 0, 0, 0, 0], [0x90, 0, 0, 0, 0x9B, 0, 0, 0, 0, 0, 0]].all (fun p =>
      validate (lineOf p) == .loaded p) = true := by decide

/-- A state with no move, and one whose next move is an instruction's encoding. -/
theorem witness_steps :
    counting.moves = [] ∧ busy.moves = .command (encode .nop) :: busy.moves.tail ∧ WellFormed .nop := by decide

/-- Two states with different pasts and the same DECODE next. -/
theorem witness_ResponseDependsOnTheLineAlone :
    (offering [0x2A, 0x3B]).moves = .command ⟨0b01, [0x2A, 0x3B]⟩ :: [] ∧
      ({ counting with moves := [.command ⟨0b01, [0x2A, 0x3B]⟩, .reset none] } : State).moves =
        .command ⟨0b01, [0x2A, 0x3B]⟩ :: [.reset none] := by decide

/-! ## The read-only constants -/

/-- The defaults meet the constraints of U13, U14 and U15. -/
theorem test_default_parameters_admitted : Admitted Config.parameters := by
  constructor <;> decide

/-- A block with other constants: another table, every symbol a space, the two speeds exchanged, the other polarity. -/
def otherParameters : Parameters where
  crcTable := List.replicate 88 1 ++ List.replicate 24 0
  charSet := List.replicate 64 0x20
  velLayout := { Config.velLayout with ewDir := 56, ewSpeed := 57, nsDir := 45, nsSpeed := 46 }
  dirNeg := false

/-- Constants other than the defaults that a block may have. -/
theorem witness_VelocityOverAnyLayout :
    Admitted otherParameters ∧ otherParameters ≠ Config.parameters ∧
      WellFormed (.df18VelGsT19S1 [0x90, 0x48, 0x50, 0x20, 0x99, 0x44, 0x09, 0x94, 0x08, 0x38, 0x17]) := by
  exact ⟨by constructor <;> decide, by decide, by decide⟩

/-- Another 64-symbol set beside an identification class. -/
theorem witness_CallsignOverAnyCharacterSet :
    otherParameters.charSet.length = 64 ∧
      WellFormed (.df17IdentT4 [0x8D, 0x48, 0x40, 0xD6, 0x20, 0x2C, 0xC3, 0x71, 0xC3, 0x2C, 0xE0]) := by decide

/-- S3. -/
theorem witness_FramesDecodeOverAnyConstants :
    validate (lineOf [0x5D, 0x4D, 0x20, 0x23, 0x7A, 0x55, 0xA6]) =
      .loaded [0x5D, 0x4D, 0x20, 0x23, 0x7A, 0x55, 0xA6] := by decide

/-- S3 over a table of zeros: its checksum `0x7a55a6` is a mismatch of 0, and is counted. -/
theorem test_step_takes_the_table :
    (match stepOver { Config.parameters with crcTable := List.replicate 112 0 }
        (offering (lineOf [0x5D, 0x4D, 0x20, 0x23, 0x7A, 0x55, 0xA6])) with
      | .next t => t.stat.crcFailures.toNat
      | _ => 0) = 1 := by decide +kernel

/-! ## The counter width -/

/-- A block with 2-bit counters at (3, 3, 3) and a DECODE of `*5d;` to do: the vector M8. -/
def narrow : State 2 := { State.resetOver 2 with stat := ⟨3, 3, 3⟩, moves := [.command ⟨0b01, [0x2A, 0x35, 0x64, 0x3B]⟩] }

/-- M8: every counter saturated at 3, the answer `OK` with `crc_valid = 0`. -/
theorem test_M8_two_bit_counters :
    (match stepOver Config.parameters narrow with
      | .next t => (t.stat.framesSeen.toNat, t.stat.invalidFrames.toNat, t.stat.crcFailures.toNat,
          match t.res with
          | some (.ok e _) => some e.crcValid
          | _ => none)
      | _ => (0, 0, 0, none)) = (3, 3, 3, some false) := by decide +kernel

/-- The clauses at other widths: each code and the reset event on full 2-bit counters, a rejected line and an accepted one. -/
theorem witness_CountersFollowCommandsAtAnyWidth :
    (∀ code : BitVec 2, ∃ (s : State 2) (c : CommandWord) (rest : List HostMove),
      s.moves = .command c :: rest ∧ c.code = code ∧ rejects c.line = true) ∧
    (narrow.moves = .command ⟨0b01, [0x2A, 0x35, 0x64, 0x3B]⟩ :: [] ∧ rejects [0x2A, 0x35, 0x64, 0x3B] = false) ∧
    ∃ (s : State 2) (a : Option CommandWord) (rest : List HostMove), s.moves = .reset a :: rest :=
  ⟨fun code => ⟨{ narrow with moves := [.command ⟨code, [0x2A, 0x3B]⟩] }, _, _, rfl, rfl, show rejects [0x2A, 0x3B] = true by decide⟩, ⟨rfl, by decide⟩,
    ⟨{ narrow with moves := [.reset none] }, _, _, rfl⟩⟩

/-- 2-bit counters one short of full, beside 32 bits. -/
theorem witness_WiderCountersTakeTheSameStep :
    let s : State 2 := { narrow with stat := ⟨2, 2, 0⟩ }
    2 ≤ Config.cntW ∧ s.stat.framesSeen.toNat < 2 ^ 2 - 1 ∧ s.stat.invalidFrames.toNat < 2 ^ 2 - 1 ∧
      s.stat.crcFailures.toNat < 2 ^ 2 - 1 := by decide

/-- Three DECODEs, the most that 2-bit counters hold, with a reset between. -/
theorem witness_WidthsAgreeOnShortRuns :
    let d : HostMove := .command ⟨0b01, [0x2A, 0x35, 0x64, 0x3B]⟩
    let s : State 2 := { State.resetOver 2 with moves := [d, .reset none, d, d] }
    2 ≤ Config.cntW ∧ s.stat = ⟨0, 0, 0⟩ ∧ s.moves.countP isDecode < 2 ^ 2 := by decide

end Sys2Proof.Tests
end

/-! One rule for what a step does with each move of the host: a reset event, each command by its code, and a DECODE
by the validator's verdict. An accepted frame runs its class, whose meaning is the common flow of 44_commands.md R251
(`execOver_classify`). The rules hold at every counter width and over any parameters. -/

namespace Sys2Proof

/-- A line the validator raises an error on is rejected. -/
theorem rejects_of_raised {line : Line} {e : ValidationError} (h : validate line = .raised e) : rejects line = true := by
  simp [rejects, h]

/-- A line that carries a frame is not rejected. -/
theorem rejects_of_loaded {line : Line} {p : Payload} (h : validate line = .loaded p) : rejects line = false := by
  simp [rejects, h]

end Sys2Proof

namespace Sys2Proof.Machine

/-! ## The meaning of an accepted frame's class -/

/-- An accepted frame's next state depends on its groups at the loaded frame alone. -/
theorem acceptFrame_congr {w : Nat} {P : Parameters} {fmt fmt' : FrameFormat} {groups groups' : FrameBuf → Nat → Groups}
    {p : Payload} {s : State w} (hlen : p.length ≤ 14) (hfmt : fmt = fmt')
    (hgroups : groups (frameOf p) p.length = groups' (frameOf p) p.length) :
    acceptFrame P fmt groups p s = acceptFrame P fmt' groups' p s := by
  rw [acceptFrame_eq P fmt groups p s hlen, acceptFrame_eq P fmt' groups' p s hlen, hfmt, hgroups]

/-- A frame of format 17 or 18 with 11 bytes or more has the ES group alone (42_dispatch_common.md R167). -/
theorem groupsOver_squitter {P : Parameters} {B : FrameBuf} {N : Nat} (hdf : downlinkFormat B = 17 ∨ downlinkFormat B = 18)
    (hN : 11 ≤ N) : groupsOver P B N = { noGroups with es := some (esWith (esPayload P B) B) } := by
  rcases hdf with h | h <;>
    simp [groupsOver, h, hN, noGroups, Config.caDf, Config.fsDf, Config.ac13Df, Config.esDf]

/-- A frame of format 17 or 18 with 10 bytes or fewer has no group (30_encoding.md R97). -/
theorem groupsOver_squitter_short {P : Parameters} {B : FrameBuf} {N : Nat}
    (hdf : downlinkFormat B = 17 ∨ downlinkFormat B = 18) (hN : N < 11) : groupsOver P B N = noGroups := by
  rcases hdf with h | h <;>
    simp [groupsOver, h, hN, noGroups, Config.caDf, Config.fsDf, Config.ac13Df]

/-- An extended-squitter class runs the common flow when its payload is the one the sub-decoder dispatch selects. -/
theorem acceptFrame_squitter {w : Nat} {P : Parameters} {fmt : FrameFormat} {payload : FrameBuf → EsPayload}
    {p : Payload} {s : State w} (hdf : downlinkFormat (frameOf p) = 17 ∨ downlinkFormat (frameOf p) = 18)
    (hN : 11 ≤ p.length) (hlen : p.length ≤ 14) (hfmt : fmt = formatOf (downlinkFormat (frameOf p)))
    (hpayload : payload (frameOf p) = esPayload P (frameOf p)) :
    acceptFrame P fmt (fun B _ => { noGroups with es := some (esWith (payload B) B) }) p s =
      acceptFrame P (formatOf (downlinkFormat (frameOf p))) (groupsOver P) p s :=
  acceptFrame_congr hlen hfmt (by rw [groupsOver_squitter hdf hN, hpayload])

/-- No sub-decoder is selected by a `metype` past 19, nor by one of 19 with a `mesub` other than 1 to 4
(43_extended_squitter.md R220). -/
theorem esPayload_none {P : Parameters} {B : FrameBuf} (ht : 19 ≤ (metype B).toNat)
    (hu : (metype B).toNat = 19 → (mesub B).toNat = 0 ∨ 5 ≤ (mesub B).toNat) : esPayload P B = .none := by
  simp only [esPayload]
  rw [if_neg (by omega), if_neg (by omega), if_neg (by omega), if_neg (by omega)]

/-- The extended-squitter class of a format-17 payload runs the common flow. -/
theorem execOver_classifyEs17 {w : Nat} (P : Parameters) {p : Payload} (s : State w)
    (hdf : downlinkFormat (frameOf p) = 17) (hN : 11 ≤ p.length) (hlen : p.length ≤ 14) :
    execOver P (classifyEs17 p) s = acceptFrame P (formatOf (downlinkFormat (frameOf p))) (groupsOver P) p s := by
  have hfmt : .long112 = formatOf (downlinkFormat (frameOf p)) := by rw [hdf]; rfl
  unfold classifyEs17
  -- `h_20` is `metype` 19, split again by `mesub`; `h_8` and `h_32` are the two matches' last, unnumbered arms.
  split
  case h_20 ht =>
    split
    case h_8 =>
      simp only [imp_false] at *
      exact acceptFrame_squitter (.inl hdf) hN hlen hfmt (esPayload_none (by omega) (by omega)).symm
    all_goals exact acceptFrame_squitter (.inl hdf) hN hlen hfmt (by simp [esPayload, *])
  case h_32 =>
    simp only [imp_false] at *
    exact acceptFrame_squitter (.inl hdf) hN hlen hfmt (esPayload_none (by omega) (by omega)).symm
  all_goals exact acceptFrame_squitter (.inl hdf) hN hlen hfmt (by simp [esPayload, *])

/-- The extended-squitter class of a format-18 payload runs the common flow. -/
theorem execOver_classifyEs18 {w : Nat} (P : Parameters) {p : Payload} (s : State w)
    (hdf : downlinkFormat (frameOf p) = 18) (hN : 11 ≤ p.length) (hlen : p.length ≤ 14) :
    execOver P (classifyEs18 p) s = acceptFrame P (formatOf (downlinkFormat (frameOf p))) (groupsOver P) p s := by
  have hfmt : .short56 = formatOf (downlinkFormat (frameOf p)) := by rw [hdf]; rfl
  unfold classifyEs18
  split
  case h_20 ht =>
    split
    case h_8 =>
      simp only [imp_false] at *
      exact acceptFrame_squitter (.inr hdf) hN hlen hfmt (esPayload_none (by omega) (by omega)).symm
    all_goals exact acceptFrame_squitter (.inr hdf) hN hlen hfmt (by simp [esPayload, *])
  case h_32 =>
    simp only [imp_false] at *
    exact acceptFrame_squitter (.inr hdf) hN hlen hfmt (esPayload_none (by omega) (by omega)).symm
  all_goals exact acceptFrame_squitter (.inr hdf) hN hlen hfmt (by simp [esPayload, *])

/-- The class of a payload runs the common flow of R251: the framing and the groups its true downlink format selects. -/
theorem execOver_classify {w : Nat} (P : Parameters) {p : Payload} (hlen : p.length ≤ 14) (s : State w) :
    execOver P (classify p) s = acceptFrame P (formatOf (downlinkFormat (frameOf p))) (groupsOver P) p s := by
  have hformat : ∀ {k : Nat}, (downlinkFormat (frameOf p)).toNat = k → downlinkFormat (frameOf p) = BitVec.ofNat 5 k :=
    fun h => by rw [← h, BitVec.ofNat_toNat, BitVec.setWidth_eq]
  have hlt := (downlinkFormat (frameOf p)).isLt
  unfold classify
  -- `h_18` and `h_19` are formats 17 and 18; `h_32` is the match's last, unnumbered arm, format 31.
  split
  case h_18 h =>
    split
    · exact execOver_classifyEs17 P s (hformat h) ‹_› hlen
    · exact acceptFrame_congr hlen (by rw [hformat h]; rfl) (groupsOver_squitter_short (by simp [hformat h]) (by omega)).symm
  case h_19 h =>
    split
    · exact execOver_classifyEs18 P s (hformat h) ‹_› hlen
    · exact acceptFrame_congr hlen (by rw [hformat h]; rfl) (groupsOver_squitter_short (by simp [hformat h]) (by omega)).symm
  case h_32 =>
    simp only [imp_false] at *
    have h := hformat (show _ = 31 by omega)
    exact acceptFrame_congr hlen (by rw [h]; rfl) (by rw [groupsOver, h]; rfl)
  all_goals
    rename_i h
    exact acceptFrame_congr hlen (by rw [hformat h]; rfl) (by rw [groupsOver, hformat h]; rfl)

/-! ## The step, by the host's next move -/

/-- A reset event is taken whole, whatever it abandons (70_reset_and_hazards.md R300). -/
theorem stepOver_reset {w : Nat} {P : Parameters} {s : State w} {a : Option CommandWord} {rest : List HostMove}
    (hm : s.moves = .reset a :: rest) : stepOver P s = .next (afterReset { s with moves := rest }) := by
  simp [stepOver, stepBy, fetch, hm]

/-- A command is taken whole: its instruction runs at the state without the move (44_commands.md R250). -/
theorem stepOver_command {w : Nat} {P : Parameters} {s : State w} {c : CommandWord} {rest : List HostMove}
    (hm : s.moves = .command c :: rest) : stepOver P s = execOver P (decode c) { s with moves := rest } := by
  simp [stepOver, stepBy, fetch, hm]

/-- A DECODE of a rejected line raises its error at the counted state (60_exceptions.md R276, R277). -/
theorem stepOver_decode_raised {w : Nat} {P : Parameters} {s : State w} {c : CommandWord} {rest : List HostMove}
    {e : ValidationError} (hm : s.moves = .command c :: rest) (hc : c.code = 0b01) (hv : validate c.line = .raised e) :
    stepOver P s = .next (raiseError e (countFrame { s with moves := rest })) := by
  have hd : decode c = .decode c.line := by simp [decode, hc, hv]
  rw [stepOver_command hm, hd]
  exact execDecodeOver_raised hv P _

/-- A DECODE of a line that carries a frame leaves the state after that frame, with the envelope and the groups that the
frame's downlink format selects (44_commands.md R251). -/
theorem stepOver_decode_loaded {w : Nat} {P : Parameters} {s : State w} {c : CommandWord} {rest : List HostMove}
    {p : Payload} (hm : s.moves = .command c :: rest) (hc : c.code = 0b01) (hv : validate c.line = .loaded p) :
    stepOver P s = .next (afterFrame { s with moves := rest } p
      (envelope P (formatOf (downlinkFormat (frameOf p))) (frameOf p) (BitVec.ofNat 4 p.length))
      (groupsOver P (frameOf p) p.length)) := by
  have hd : decode c = classify p := by simp [decode, hc, hv]
  obtain ⟨-, hlen, -⟩ := validate_loaded hv
  rw [stepOver_command hm, hd, execOver_classify P hlen, acceptFrame_eq _ _ _ _ _ hlen]

/-- What a step over a command answers, by the command's code and, for a DECODE, the validator's verdict. -/
theorem stepOver_command_cases {w : Nat} (P : Parameters) {s : State w} {c : CommandWord} {rest : List HostMove}
    (hm : s.moves = .command c :: rest) :
    (c.code = 0b00 ∧ stepOver P s = .next (respond .empty { s with moves := rest })) ∨
    (c.code = 0b10 ∧ stepOver P s = .next (respond (.snapshot s.stat) { s with moves := rest })) ∨
    (c.code = 0b11 ∧ stepOver P s = .next (respond .empty (clearCounters { s with moves := rest }))) ∨
    (c.code = 0b01 ∧ ∃ p, validate c.line = .loaded p ∧ stepOver P s = .next (afterFrame { s with moves := rest } p
      (envelope P (formatOf (downlinkFormat (frameOf p))) (frameOf p) (BitVec.ofNat 4 p.length))
      (groupsOver P (frameOf p) p.length))) ∨
    (c.code = 0b01 ∧ ∃ e, validate c.line = .raised e ∧
      stepOver P s = .next (raiseError e (countFrame { s with moves := rest }))) := by
  rcases decode_cases c with ⟨hc, hd⟩ | ⟨hc, hd⟩ | ⟨hc, hd⟩ | ⟨hc, p, hv, -⟩ | ⟨hc, e, hv, -⟩
  · exact .inl ⟨hc, by rw [stepOver_command hm, hd]; rfl⟩
  · exact .inr (.inl ⟨hc, by rw [stepOver_command hm, hd]; rfl⟩)
  · exact .inr (.inr (.inl ⟨hc, by rw [stepOver_command hm, hd]; rfl⟩))
  · exact .inr (.inr (.inr (.inl ⟨hc, p, hv, stepOver_decode_loaded hm hc hv⟩)))
  · exact .inr (.inr (.inr (.inr ⟨hc, e, hv, stepOver_decode_raised hm hc hv⟩)))

/-! ## The state after an accepted frame -/

section AfterFrame

variable {w : Nat} (s : State w) (p : Payload) (env : Envelope) (g : Groups)

@[simp] theorem afterFrame_stat : (afterFrame s p env g).stat =
    { framesSeen := satInc s.stat.framesSeen
      invalidFrames := s.stat.invalidFrames
      crcFailures := if env.crcValid then s.stat.crcFailures else satInc s.stat.crcFailures } := rfl

@[simp] theorem afterFrame_buf : (afterFrame s p env g).buf = frameOf p := rfl

@[simp] theorem afterFrame_n : (afterFrame s p env g).n = BitVec.ofNat 4 p.length := rfl

@[simp] theorem afterFrame_res : (afterFrame s p env g).res = some (.ok env g) := rfl

@[simp] theorem afterFrame_moves : (afterFrame s p env g).moves = s.moves := rfl

@[simp] theorem afterFrame_delivered : (afterFrame s p env g).delivered = s.delivered ++ [.ok env g] := rfl

end AfterFrame

/-- `crc_valid` says whether the two checksums of the envelope agree (41_crc.md R146). -/
theorem envelope_crcValid (P : Parameters) (fmt : FrameFormat) (B : FrameBuf) (n : BitVec 4) :
    (envelope P fmt B n).crcValid = decide ((envelope P fmt B n).crcValue = (envelope P fmt B n).crcCalc) := rfl

/-- The increment is the spec's `inc` (00_scope.md R14), as the statements write it. -/
theorem satInc_toNat_eq_countedUp {w : Nat} (c : Counter w) : (satInc c).toNat = countedUp c := satInc_toNat c

end Sys2Proof.Machine

/-! The counters of 10_state.md: what each move of the host does to `invalid_frames` (R23) and `crc_failures` (R24). -/

namespace Sys2Proof.Proofs

open Sys2Proof Sys2Proof.Machine

/-- Settles O6, by the step's cases on the command: only a raised error counts in `invalid_frames`. -/
theorem invalidFramesCountsErrors : Obligations.InvalidFramesCountsErrors := by
  unfold Obligations.InvalidFramesCountsErrors
  simp only [step_eq_stepOver]
  constructor
  · intro s c rest hm
    rcases stepOver_command_cases Config.parameters hm with
      ⟨hc, hs⟩ | ⟨hc, hs⟩ | ⟨hc, hs⟩ | ⟨hc, p, hv, hs⟩ | ⟨hc, e, hv, hs⟩
    · exact ⟨_, hs, by simp [hc]⟩
    · exact ⟨_, hs, by simp [hc]⟩
    · exact ⟨_, hs, by simp [hc]⟩
    · exact ⟨_, hs, by simp [hc, rejects_of_loaded hv]⟩
    · exact ⟨_, hs, by simp [hc, rejects_of_raised hv, satInc_toNat_eq_countedUp]⟩
  · intro s a rest hm
    exact ⟨_, stepOver_reset hm, by simp⟩

/-- Settles O7, by the step's cases on the command: only an accepted frame whose checksums differ counts in
`crc_failures`. -/
theorem crcFailuresCountsMismatches : Obligations.CrcFailuresCountsMismatches := by
  unfold Obligations.CrcFailuresCountsMismatches
  simp only [step_eq_stepOver]
  constructor
  · intro s c rest hm
    rcases stepOver_command_cases Config.parameters hm with
      ⟨hc, hs⟩ | ⟨hc, hs⟩ | ⟨hc, hs⟩ | ⟨hc, p, hv, hs⟩ | ⟨hc, e, hv, hs⟩
    · exact ⟨_, hs, by simp [hc]⟩
    · exact ⟨_, hs, by simp [hc]⟩
    · exact ⟨_, hs, by simp [hc]⟩
    · refine ⟨_, hs, by simp [hc, rejects_of_loaded hv], fun _ _ => ⟨_, _, afterFrame_res .., ?_, ?_⟩, by simp [hc]⟩
      · intro hne
        simp [envelope_crcValid, hne, satInc_toNat_eq_countedUp]
      · intro heq
        simp [envelope_crcValid, heq]
    · exact ⟨_, hs, by simp [hc, rejects_of_raised hv]⟩
  · intro s a rest hm
    exact ⟨_, stepOver_reset hm, by simp⟩

end Sys2Proof.Proofs

/-! The Frame Validator of 40_frame_validator.md on a delimited line: the digits of a pair as numbers, the pairs as
bytes, and the load that a DECODE of such a line ends in (R126). -/

namespace Sys2Proof

/-- The value of a character is the digit's number (30_encoding.md R81). -/
theorem hexval_toNat {c : Byte} {v : BitVec 4} (h : hexval c = some v) : v.toNat = digitNat c := by
  simp only [hexval, Bool.and_eq_true, decide_eq_true_eq, BitVec.le_def, BitVec.ofNat_eq_ofNat, BitVec.toNat_ofNat] at h
  unfold digitNat
  -- Both functions test the same three ranges, so each range is one case of the two.
  split_ifs at h ⊢
  all_goals
    cases h
    bv_omega

/-- A hex digit has a value, and it is the digit's number. -/
theorem hexval_of_isHexDigit {c : Byte} (h : isHexDigit c = true) : ∃ v, hexval c = some v ∧ v.toNat = digitNat c := by
  rw [← hexval_isSome] at h
  obtain ⟨v, hv⟩ := Option.isSome_iff_exists.1 h
  exact ⟨v, hv, hexval_toNat hv⟩

/-- Two nibbles as a byte: the first is the high one (20_memory.md R52). -/
theorem toNat_nibbles (hi lo : BitVec 4) : (hi ++ lo : Byte).toNat = 16 * hi.toNat + lo.toNat := by
  rw [Machine.toNat_cat]
  omega

/-- Pairs of hex digits give one byte each, 16 times the first digit's value plus the second's (R126). -/
theorem hexPairs_of_pairs {cs : List (Byte × Byte)} (h : ∀ c ∈ cs, isHexDigit c.1 = true ∧ isHexDigit c.2 = true) :
    ∃ p, hexPairs (cs.flatMap fun c => [c.1, c.2]) = some p ∧
      p.map BitVec.toNat = cs.map fun c => 16 * digitNat c.1 + digitNat c.2 := by
  induction cs with
  | nil => exact ⟨[], rfl, rfl⟩
  | cons c cs ih =>
    obtain ⟨hc, hcs⟩ := List.forall_mem_cons.1 h
    obtain ⟨hi, hhi, hhiNat⟩ := hexval_of_isHexDigit hc.1
    obtain ⟨lo, hlo, hloNat⟩ := hexval_of_isHexDigit hc.2
    obtain ⟨p, hp, hpNat⟩ := ih hcs
    exact ⟨(hi ++ lo) :: p, by simp [hexPairs, hhi, hlo, hp], by simp [toNat_nibbles, hhiNat, hloNat, hpNat]⟩

/-- Delimited characters that pair up to 1 to 14 bytes are loaded as those bytes (R126). -/
theorem validate_of_hexPairs {pay : List Byte} {p : Payload} (h : hexPairs pay = some p) (h1 : 1 ≤ p.length)
    (h14 : p.length ≤ 14) : validate (starChar :: pay ++ [semiChar]) = .loaded p := by
  obtain ⟨hlen, -⟩ := hexPairs_some h
  rw [validate_delimited, if_neg (by omega), if_neg (by omega), if_neg (by omega), h]

end Sys2Proof

namespace Sys2Proof.Machine

/-- A DECODE of a line that carries a frame leaves the state after that frame, as the step over its command does
(44_commands.md R251). -/
theorem execOver_decode_loaded {w : Nat} (P : Parameters) {line : Line} {p : Payload} (hv : validate line = .loaded p)
    (s : State w) :
    execOver P (decode ⟨0b01, line⟩) s = .next (afterFrame s p
      (envelope P (formatOf (downlinkFormat (frameOf p))) (frameOf p) (BitVec.ofNat 4 p.length))
      (groupsOver P (frameOf p) p.length)) :=
  (stepOver_command (s := { s with moves := .command ⟨0b01, line⟩ :: s.moves }) rfl).symm.trans
    (stepOver_decode_loaded rfl rfl hv)

end Sys2Proof.Machine

namespace Sys2Proof.Proofs

open Sys2Proof Sys2Proof.Machine

/-- Settles O13, by the validator's verdict on a line without its two ends (R121) and, with them, on the count alone
(R122, R123). -/
theorem validatorTestsEndsThenLength : Obligations.ValidatorTestsEndsThenLength := by
  unfold Obligations.ValidatorTestsEndsThenLength
  refine ⟨fun _ hs => validate_undelimited hs, fun pay hshort => ?_, fun pay hlong => ?_⟩
  · exact (validate_delimited pay).trans (if_pos hshort)
  · exact (validate_delimited pay).trans (by rw [if_neg (by omega), if_pos hlong])

/-- Settles O15: the pairs read as bytes are what the validator loads, and the next state's buffer is that load. -/
theorem hexPairsLoadTheirBytes : Obligations.HexPairsLoadTheirBytes := by
  unfold Obligations.HexPairsLoadTheirBytes
  intro cs h1 h14 hdigits s
  obtain ⟨p, hp, hbytes⟩ := hexPairs_of_pairs hdigits
  have hlen : p.length = cs.length := by simpa using congrArg List.length hbytes
  have hload := validate_of_hexPairs hp (by omega) (by omega)
  refine ⟨_, (exec_eq_execOver _ s).trans (execOver_decode_loaded Config.parameters hload s), ?_, ?_, ?_⟩
  · rw [afterFrame_n, payloadLength_toNat (by omega), hlen]
  · intro i c hc
    have hi : i < cs.length := (List.getElem?_eq_some_iff.1 hc).1
    have hbyte : p[i]?.map BitVec.toNat = some (16 * digitNat c.1 + digitNat c.2) := by
      rw [← List.getElem?_map, hbytes, List.getElem?_map, hc, Option.map_some]
    obtain ⟨b, hb, hbNat⟩ := Option.map_eq_some_iff.1 hbyte
    rw [afterFrame_buf, byte_frameOf_lt p (by omega), List.getD_eq_getElem?_getD, hb, Option.getD_some, hbNat]
  · intro i hi _
    rw [afterFrame_buf, byte_frameOf_past p (by omega)]

end Sys2Proof.Proofs

/-! The CRC Engine of 41_crc.md as a sum over the set message bits (R144), the bytes its three fields read (R148), and the
envelope a frame is answered with, whose numbers are the arithmetic of `EnvelopeOver` (42_dispatch_common.md R169). -/

namespace Sys2Proof

/-! ## A payload and the frame it is loaded as -/

/-- Byte `i` of a loaded payload as a number. -/
theorem byte_frameOf_toNat (p : Payload) {i : Nat} (h : i < 14) : ((frameOf p).byte i).toNat = byteNat p i :=
  congrArg BitVec.toNat (byte_frameOf_lt p h)

/-- A frame's own bytes load as the frame. -/
theorem frameOf_toList (B : FrameBuf) : frameOf B.toList = B :=
  frame_ext fun i hi => by
    rw [byte_frameOf_lt _ hi]
    simp [FrameBuf.byte, hi]

/-- A line that carries a frame mismatches exactly when the frame's `crc_valid` is false (41_crc.md R146). -/
theorem mismatches_of_loaded {line : Line} {p : Payload} (h : validate line = .loaded p) :
    mismatches line = !Machine.crcValid (Machine.formatOf (downlinkFormat (frameOf p))) (frameOf p) := by
  simp [mismatches, h]

end Sys2Proof

namespace Sys2Proof.Machine

/-! ## The framing -/

/-- The table offset fills the framed bits up to the 112 entries (41_crc.md R143). -/
theorem tableOffset_eq (fmt : FrameFormat) : tableOffset fmt = 112 - formatBits fmt := by cases fmt <;> rfl

theorem formatBits_le (fmt : FrameFormat) : formatBits fmt ≤ 112 := by cases fmt <;> decide

theorem formatBits_eq_bytes (fmt : FrameFormat) : formatBits fmt = 8 * formatBytes fmt := by cases fmt <;> rfl

theorem formatBytes_le (fmt : FrameFormat) : formatBytes fmt ≤ 14 := by cases fmt <;> decide

theorem formatBytes_ge (fmt : FrameFormat) : 3 ≤ formatBytes fmt := by cases fmt <;> decide

/-- The formats framed as 112 bits (42_dispatch_common.md R161). -/
theorem formatOf_eq_long112_iff (df : BitVec 5) : formatOf df = .long112 ↔ df.toNat ∈ [16, 17, 19, 20, 21] := by
  revert df
  decide

/-! ## The checksum as the sum over the set message bits -/

/-- Message bit `j` of a loaded payload is the payload's bit by arithmetic. -/
theorem messageBit_frameOf_eq_payloadBit (p : Payload) {j : Nat} (h : j < 112) :
    messageBit (frameOf p) j = payloadBit p j := by
  rw [messageBit_frameOf p h, payloadBit, byteNat, BitVec.testBit_toNat]

/-- The loop over a run of message bits is the XOR of the entries of those that are set. -/
theorem crcFold_eq_xor_filter {T : List Crc24} {offset : Nat} {p : Payload} {l : List Nat} (h : ∀ j ∈ l, j < 112) :
    l.foldl (crcTurn T offset (frameOf p)) 0 =
      ((l.filter (payloadBit p)).map fun j => T.getD (j + offset) 0).foldr (· ^^^ ·) 0 := by
  induction l with
  | nil => rfl
  | cons j l ih =>
    obtain ⟨hj, hl⟩ := List.forall_mem_cons.1 h
    rw [List.foldl_cons, crcFold_start, ih hl, crcTurn, messageBit_frameOf_eq_payloadBit p hj]
    cases hbit : payloadBit p j <;> simp [hbit, tableEntry]

/-- `xorOfSetBits` is the loop over as many message bits (R144). -/
theorem xorOfSetBits_eq_crcFold (T : List Crc24) (p : Payload) (offset : Nat) {bits : Nat} (h : bits ≤ 112) :
    xorOfSetBits T p offset bits = (List.range bits).foldl (crcTurn T offset (frameOf p)) 0 :=
  (crcFold_eq_xor_filter fun _ hj => (List.mem_range.1 hj).trans_le h).symm

/-- `crc_calc` of a loaded payload is the XOR of the entries of its set bits below `bit_length` (R144). -/
theorem crcOver_frameOf (T : List Crc24) (fmt : FrameFormat) (p : Payload) :
    crcOver T fmt (frameOf p) = xorOfSetBits T p (tableOffset fmt) (formatBits fmt) :=
  (xorOfSetBits_eq_crcFold T p _ (formatBits_le fmt)).symm

/-- Over a table that ends in zeros the last 24 message bits, the frame's own checksum, add nothing (R144). -/
theorem crcOver_eq_lead {T : List Crc24} (hT : ∀ k, 88 ≤ k → T.getD k 0 = 0) (fmt : FrameFormat) (B : FrameBuf) :
    crcOver T fmt B = (List.range (formatBits fmt - 24)).foldl (crcTurn T (tableOffset fmt) B) 0 := by
  have hsplit : formatBits fmt = formatBits fmt - 24 + 24 := by cases fmt <;> rfl
  have hstart : 88 ≤ formatBits fmt - 24 + tableOffset fmt := by cases fmt <;> decide
  have htail : ∀ j ∈ (List.range 24).map (formatBits fmt - 24 + ·), crcTerm T (tableOffset fmt) B j = 0 := by
    intro j hj
    obtain ⟨i, -, rfl⟩ := List.mem_map.1 hj
    rw [crcTerm, tableEntry, hT _ (by omega), ite_self]
  rw [crcOver, hsplit, List.range_add, crcFold_append, crcFold_zero htail, ← hsplit]
  exact BitVec.xor_zero

/-- Over a table that ends in zeros `crc_calc` is the XOR of the entries of the set bits below `bit_length - 24` (R144). -/
theorem crcOver_frameOf_lead {T : List Crc24} (hT : ∀ k, 88 ≤ k → T.getD k 0 = 0) (fmt : FrameFormat) (p : Payload) :
    crcOver T fmt (frameOf p) = xorOfSetBits T p (tableOffset fmt) (formatBits fmt - 24) := by
  rw [crcOver_eq_lead hT, xorOfSetBits_eq_crcFold T p _ ((Nat.sub_le ..).trans (formatBits_le fmt))]

/-- Each message bit of the zero frame is clear. -/
theorem messageBit_zero (j : Nat) : messageBit (Vector.replicate 14 0) j = false := by
  have hbyte : FrameBuf.byte (Vector.replicate 14 0) (j / 8) = 0 := by
    rw [FrameBuf.byte, Vector.getElem?_replicate]
    split <;> rfl
  rw [messageBit, hbyte, BitVec.ofNat_eq_ofNat, BitVec.getLsbD_zero]

/-- The zero frame's checksum is 0, over any table. -/
theorem crcOver_zero (T : List Crc24) (fmt : FrameFormat) : crcOver T fmt (Vector.replicate 14 0) = 0 :=
  crcFold_zero fun j _ => by rw [crcTerm, messageBit_zero, if_neg Bool.false_ne_true]

/-- The loop over a run of distinct bits of which only `j` is set gives the entry of `j`. -/
theorem crcFold_single {T : List Crc24} {offset : Nat} {B : FrameBuf} {l : List Nat} {j : Nat} (hl : l.Nodup)
    (hj : j ∈ l) (hB : ∀ k ∈ l, (messageBit B k = true ↔ k = j)) :
    l.foldl (crcTurn T offset B) 0 = tableEntry T (j + offset) := by
  have hclear : ∀ k ∈ l, k ≠ j → crcTerm T offset B k = 0 := fun k hk hne => if_neg (mt (hB k hk).1 hne)
  have hset : crcTerm T offset B j = tableEntry T (j + offset) := if_pos ((hB j hj).2 rfl)
  obtain ⟨before, after, rfl⟩ := List.append_of_mem hj
  obtain ⟨hbefore, hafter⟩ : j ∉ before ∧ j ∉ after := by
    simpa using (List.nodup_cons.1 (List.nodup_middle.1 hl)).1
  rw [crcFold_append, crcFold_zero fun k hk => hclear k (by simp [hk]) (ne_of_mem_of_not_mem hk hbefore),
    List.foldl_cons, crcTurn_eq, crcFold_start,
    crcFold_zero fun k hk => hclear k (by simp [hk]) (ne_of_mem_of_not_mem hk hafter), hset]
  simp

/-- The checksum of a frame whose only set bit is `j` is the entry of `j`, over any table. -/
theorem crcOver_single {T : List Crc24} {fmt : FrameFormat} {B : FrameBuf} {j : Nat} (hj : j < formatBits fmt)
    (hB : ∀ k, k < 112 → (messageBit B k = true ↔ k = j)) :
    crcOver T fmt B = tableEntry T (j + tableOffset fmt) :=
  crcFold_single List.nodup_range (List.mem_range.2 hj) fun k hk =>
    hB k ((List.mem_range.1 hk).trans_le (formatBits_le fmt))

/-! ## The framed bytes -/

section FramedBytes

variable {fmt : FrameFormat} {A B : FrameBuf} (h : ∀ i, i < formatBytes fmt → A.byte i = B.byte i)
include h

/-- `downlink_format` reads a framed byte. -/
theorem downlinkFormat_of_framed_eq : downlinkFormat A = downlinkFormat B := by
  have := formatBytes_ge fmt
  rw [downlinkFormat, downlinkFormat, h 0 (by omega)]

/-- `crc_calc` reads the framed bytes alone (41_crc.md R148), over any table. -/
theorem crcOver_of_framed_eq (T : List Crc24) : crcOver T fmt A = crcOver T fmt B := by
  refine crcFold_congr (fun j hj => ?_) 0
  have hj8 : j / 8 < formatBytes fmt := by
    have := formatBits_eq_bytes fmt
    have := List.mem_range.1 hj
    omega
  rw [crcTerm, crcTerm, messageBit, messageBit, h _ hj8]

/-- `crc_value` reads the framed bytes alone (R148). -/
theorem crcValue_of_framed_eq : crcValue fmt A = crcValue fmt B := by
  have := formatBytes_ge fmt
  simp only [crcValue]
  rw [h _ (by omega), h _ (by omega), h _ (by omega)]

/-- `crc_valid` reads the framed bytes alone (R148), over any table. -/
theorem crcValidOver_of_framed_eq (T : List Crc24) : crcValidOver T fmt A = crcValidOver T fmt B := by
  rw [crcValidOver, crcValidOver, crcValue_of_framed_eq h, crcOver_of_framed_eq h]

end FramedBytes

/-! ## The envelope -/

/-- The envelope of a loaded payload has the numbers that the payload's bytes give by arithmetic (42_dispatch_common.md
R169). -/
theorem envelope_envelopeOver (P : Parameters) (fmt : FrameFormat) {p : Payload} (hlen : p.length ≤ 14) :
    EnvelopeOver P.crcTable fmt p (envelope P fmt (frameOf p) (BitVec.ofNat 4 p.length)) where
  rawLen := payloadLength_toNat hlen
  rawBytes _ hi := byte_frameOf_toNat p hi
  downlinkFormat := by simp only [envelope, downlinkFormat_toNat, byte_frameOf_toNat p (show 0 < 14 by decide)]
  bitLength := by cases fmt <;> rfl
  crcCalc := by cases fmt <;> exact crcOver_frameOf P.crcTable _ p
  crcValue := by
    have hbyte (k : Nat) (hk : 1 ≤ k ∧ k ≤ 3) :
        ((frameOf p).byte (formatBytes fmt - k)).toNat = byteNat p (formatBytes fmt - k) :=
      byte_frameOf_toNat p (by have := formatBytes_le fmt; omega)
    have hvalue := crcValue_toNat (frameOf p) fmt
    rw [hbyte 3 (by decide), hbyte 2 (by decide), hbyte 1 (by decide)] at hvalue
    cases fmt <;> exact hvalue
  crcValid := beq_iff_eq
  address := by
    simp only [envelope, address_toNat, byte_frameOf_toNat p (show 1 < 14 by decide),
      byte_frameOf_toNat p (show 2 < 14 by decide), byte_frameOf_toNat p (show 3 < 14 by decide)]

end Sys2Proof.Machine

namespace Sys2Proof.Proofs

open Sys2Proof Sys2Proof.Machine

/-- Settles O32: the loop is the sum over the set bits below `bit_length`, and the zero entries at the table's end make the
sum below `bit_length - 24` the same. -/
theorem crcSumsTheSetBits : Obligations.CrcSumsTheSetBits := by
  unfold Obligations.CrcSumsTheSetBits
  intro T hT
  refine ⟨fun B => ?_, crcOver_zero T, fun fmt B j hj hB => ?_⟩
  · have hall (fmt : FrameFormat) := crcOver_frameOf T fmt B.toList
    have hlead (fmt : FrameFormat) := crcOver_frameOf_lead hT fmt B.toList
    rw [frameOf_toList] at hall hlead
    exact ⟨hall .short56, hlead .short56, hall .long112, hlead .long112⟩
  · rw [← tableOffset_eq]
    exact crcOver_single hj hB

/-- Settles O36: payloads that agree in the framed bytes select one format, and the three fields read only those bytes. -/
theorem checksumReadsTheFramedBytesOnly : Obligations.ChecksumReadsTheFramedBytesOnly := by
  unfold Obligations.ChecksumReadsTheFramedBytesOnly
  rintro l l' p p' fmt hl hl' rfl hbytes s s'
  have hframed : ∀ i, i < formatBytes (formatOf (downlinkFormat (frameOf p))) →
      (frameOf p).byte i = (frameOf p').byte i := by
    intro i hi
    have hi14 := hi.trans_le (formatBytes_le _)
    rw [byte_frameOf_lt p hi14, byte_frameOf_lt p' hi14, hbytes i hi]
  refine ⟨_, _, _, _, _, _, (exec_eq_execOver _ s).trans (execOver_decode_loaded Config.parameters hl s),
    (exec_eq_execOver _ s').trans (execOver_decode_loaded Config.parameters hl' s'), afterFrame_res .., afterFrame_res .., ?_⟩
  rw [← downlinkFormat_of_framed_eq hframed]
  exact ⟨crcOver_of_framed_eq hframed _, crcValue_of_framed_eq hframed, crcValidOver_of_framed_eq hframed _⟩

/-- Settles O37: a mismatch changes `crc_valid` and the counter of the state after the frame, and neither the envelope nor
the groups of the `OK` response. -/
theorem mismatchIsNoError : Obligations.MismatchIsNoError := by
  unfold Obligations.MismatchIsNoError
  intro line p hv hmis s
  obtain ⟨-, hlen, -⟩ := validate_loaded hv
  have hinvalid : (envelope Config.parameters (formatOf (downlinkFormat (frameOf p))) (frameOf p)
      (BitVec.ofNat 4 p.length)).crcValid = false := by
    rw [mismatches_of_loaded hv, Bool.not_eq_true'] at hmis
    exact hmis
  refine ⟨_, _, _, (exec_eq_execOver _ s).trans (execOver_decode_loaded Config.parameters hv s), afterFrame_res .., rfl,
    hinvalid, envelope_envelopeOver Config.parameters _ hlen, ?_, ?_, rfl⟩
  · rw [formatOf_eq_long112_iff, downlinkFormat_toNat, byte_frameOf_toNat p (by decide)]
  · simp [hinvalid, satInc_toNat_eq_countedUp]

/-- Settles O30, by the table's 112 entries. -/
theorem crcTableEndsInZeros : Obligations.CrcTableEndsInZeros := by
  unfold Obligations.CrcTableEndsInZeros
  refine ⟨rfl, fun k hk hk' => ?_⟩
  interval_cases k <;> rfl

end Sys2Proof.Proofs

/-! The common fields of 42_dispatch_common.md: the capability code of an All-Call reply (R181, R162). -/

namespace Sys2Proof.Machine

/-- An All-Call reply of at most 14 bytes leaves the state after its frame: the short framing, and the capability code as
the only group (42_dispatch_common.md R181). -/
theorem execOver_df11 {w : Nat} (P : Parameters) {p : Payload} (hlen : p.length ≤ 14) (s : State w) :
    execOver P (.df11 p) s = .next (afterFrame s p (envelope P .short56 (frameOf p) (BitVec.ofNat 4 p.length))
      { noGroups with ca := some (capabilityCode (frameOf p)) }) :=
  acceptFrame_eq P .short56 (fun B _ => { noGroups with ca := some (capabilityCode B) }) p s hlen

end Sys2Proof.Machine

namespace Sys2Proof.Proofs

open Sys2Proof Sys2Proof.Machine

/-- Settles O18: a well-formed payload fits the buffer, so DF11 leaves the state after its frame, and the capability code
of that frame is the low three bits of byte 0. -/
theorem allCallHasItsCapability : Obligations.AllCallHasItsCapability := by
  unfold Obligations.AllCallHasItsCapability
  intro p hwf s
  obtain ⟨-, -, hlen⟩ := Laws.Classify.df11 p hwf _ p rfl
  have hcode : (capabilityCode (frameOf p)).toNat = byteNat p 0 % 8 := by
    rw [capabilityCode_toNat, byte_frameOf_toNat p (by decide)]
  exact ⟨_, _, _, (exec_eq_execOver _ s).trans (execOver_df11 Config.parameters hlen s),
    envelope_envelopeOver Config.parameters .short56 hlen, rfl, hcode, rfl, rfl, rfl⟩

end Sys2Proof.Proofs

/-! The extended squitter of 43_extended_squitter.md: the classes without a sub-decoder (R228). -/

namespace Sys2Proof.Machine

/-- `metype` of an ES group, by arithmetic on byte 4 (43_extended_squitter.md R220). -/
theorem esWith_frameOf_metype (payload : EsPayload) (p : Payload) :
    (esWith payload (frameOf p)).metype.toNat = byteNat p 4 / 8 := by
  rw [← byte_frameOf_toNat p (by decide)]
  exact metype_toNat (frameOf p)

/-- `mesub` of an ES group, by arithmetic on byte 4 (43_extended_squitter.md R220). -/
theorem esWith_frameOf_mesub (payload : EsPayload) (p : Payload) :
    (esWith payload (frameOf p)).mesub.toNat = byteNat p 4 % 8 := by
  rw [← byte_frameOf_toNat p (by decide)]
  exact mesub_toNat (frameOf p)

/-- The combinations of `metype` and `mesub` that select no sub-decoder (43_extended_squitter.md R228). -/
abbrev SelectsNoSubDecoder (t u : Nat) : Prop := t ∈ [0, 5, 6, 7, 8] ∨ 20 ≤ t ∨ t = 19 ∧ u ∈ [0, 5, 6, 7]

/-- A row that fixes `metype`, and `mesub` where `metype` is 19, to a combination of R228. -/
abbrev FixesNoSubDecoder (r : ClassRow) : Prop :=
  r.mask.extractLsb' 3 5 = BitVec.allOnes 5 ∧
  ((r.want.extractLsb' 3 5).toNat = 19 → r.mask.extractLsb' 0 3 = BitVec.allOnes 3) ∧
  SelectsNoSubDecoder (r.want.extractLsb' 3 5).toNat (r.want.extractLsb' 0 3).toNat

/-- A payload that passes the test of such a row has a combination of R228. -/
theorem selectsNoSubDecoder_of_head {r : ClassRow} {p : Payload} (hr : FixesNoSubDecoder r)
    (h : head40 p &&& r.mask = r.want) :
    SelectsNoSubDecoder (metype (frameOf p)).toNat (mesub (frameOf p)).toNat := by
  obtain ⟨hmask, hmask19, hwant⟩ := hr
  rw [Laws.Classify.metype_of_head h hmask]
  rcases hwant with ht | ht | ⟨ht, hu⟩
  · exact .inl ht
  · exact .inr (.inl ht)
  · exact .inr (.inr ⟨ht, by rwa [Laws.Classify.mesub_of_head h (hmask19 ht)]⟩)

/-- The row of a class without a sub-decoder fixes a combination of R228. -/
theorem classRow_of_mem_noneClasses {c : (Payload → Instr) × FrameFormat} (hc : c ∈ noneClasses) (p : Payload) :
    ∃ r, classRow (c.1 p) = some (r, p) ∧ FixesNoSubDecoder r := by
  unfold noneClasses at hc
  fin_cases hc <;> exact ⟨_, rfl, by decide⟩

/-- A class without a sub-decoder runs the common flow with the class `NONE` in its ES group, its only one
(42_dispatch_common.md R187, R188). -/
theorem execOver_of_mem_noneClasses {w : Nat} (P : Parameters) {c : (Payload → Instr) × FrameFormat}
    (hc : c ∈ noneClasses) (p : Payload) (s : State w) :
    execOver P (c.1 p) s = acceptFrame P c.2 (fun B _ => { noGroups with es := some (esWith .none B) }) p s := by
  unfold noneClasses at hc
  fin_cases hc <;> rfl

end Sys2Proof.Machine

namespace Sys2Proof.Proofs

open Sys2Proof Sys2Proof.Machine

/-- Settles O25: the class's row bounds the payload's length and fixes its combination, and the class runs the common flow
with the ES group of class `NONE`. -/
theorem otherSquittersHaveNoFields : Obligations.OtherSquittersHaveNoFields := by
  unfold Obligations.OtherSquittersHaveNoFields
  intro c hc p hwf s
  obtain ⟨r, hr, hfixes⟩ := classRow_of_mem_noneClasses hc p
  obtain ⟨hhead, -, -⟩ := Laws.Classify.row_facts hr hwf
  obtain ⟨-, -, hlen⟩ := Laws.Classify.statement_of (c.1 p) hwf r p hr
  have hexec := (exec_eq_execOver _ s).trans (execOver_of_mem_noneClasses Config.parameters hc p s)
  rw [acceptFrame_eq _ _ _ _ _ hlen] at hexec
  exact ⟨_, _, _, hexec, envelope_envelopeOver Config.parameters c.2 hlen, rfl, rfl, rfl, rfl,
    esWith_frameOf_metype .none p, esWith_frameOf_mesub .none p, rfl, selectsNoSubDecoder_of_head hfixes hhead⟩

end Sys2Proof.Proofs

/-! The commands of 44_commands.md: STATS_RESET (R253). -/

namespace Sys2Proof.Machine

/-- STATS_RESET at any counter width and over any parameters: the counters are cleared in one transition and the response is
empty (44_commands.md R253). -/
theorem execOver_statsReset {w : Nat} (P : Parameters) (s : State w) :
    execOver P .statsReset s = .next (respond .empty (clearCounters s)) := rfl

end Sys2Proof.Machine

namespace Sys2Proof.Proofs

open Sys2Proof Sys2Proof.Machine

/-- Settles O11: the next state is the cleared one with its response, and each clause reads one field of it. -/
theorem statsResetClearsAllThree : Obligations.StatsResetClearsAllThree := by
  unfold Obligations.StatsResetClearsAllThree
  intro s
  have hstat : (respond .empty (clearCounters s)).stat = ⟨0, 0, 0⟩ :=
    (respond_stat .empty _).trans (clearCounters_stat s)
  refine ⟨_, (exec_eq_execOver _ s).trans (execOver_statsReset Config.parameters s), ?_, ?_, ?_,
    respond_res .., respond_delivered .., respond_buf .., respond_n .., respond_moves .., ?_⟩
  · rw [hstat]
  · rw [hstat]
  · rw [hstat]
  · intro hzero
    rw [hstat, hzero]

end Sys2Proof.Proofs

/-! The errors of 60_exceptions.md: the effect of a raise (R276, R277). -/

namespace Sys2Proof.Machine

/-- DECODE of a rejected line at any counter width and over any parameters raises its error at the counted state
(60_exceptions.md R277). -/
theorem execOver_decode_raised {w : Nat} (P : Parameters) {line : Line} {e : ValidationError}
    (hv : validate line = .raised e) (s : State w) :
    execOver P (.decode line) s = .next (raiseError e (countFrame s)) :=
  execDecodeOver_raised hv P s

end Sys2Proof.Machine

namespace Sys2Proof.Proofs

open Sys2Proof Sys2Proof.Machine

/-- Settles O12: the next state is the counted one with its error raised, which touches two counters and the response
alone; each clause reads one field of it. -/
theorem rejectedLineRaisesAndLoadsNothing : Obligations.RejectedLineRaisesAndLoadsNothing := by
  unfold Obligations.RejectedLineRaisesAndLoadsNothing
  intro line e hv s
  have hstat : (raiseError e (countFrame s)).stat =
      { framesSeen := satInc s.stat.framesSeen
        invalidFrames := satInc s.stat.invalidFrames
        crcFailures := s.stat.crcFailures } := by
    rw [raiseError_stat, countFrame_stat]
  refine ⟨_, (exec_eq_execOver _ s).trans (execOver_decode_raised Config.parameters hv s), ?_, ?_, ?_,
    raiseError_buf .., raiseError_n .., raiseError_res .., raiseError_delivered .., raiseError_moves ..⟩
  · rw [hstat, satInc_toNat_eq_countedUp]
  · rw [hstat, satInc_toNat_eq_countedUp]
  · rw [hstat]

end Sys2Proof.Proofs

/-! The invariant of 10_state.md: the counters stay ordered by every count, an accepted frame's response is sound, and each
move of the host keeps a sound state sound. -/

namespace Sys2Proof.Machine

/-! ## Ordered counters -/

/-- The counters' order as inequalities of numbers. -/
theorem countersOrdered_iff {w : Nat} {st : Stat w} : CountersOrdered st ↔
    st.invalidFrames.toNat ≤ st.framesSeen.toNat ∧ st.crcFailures.toNat ≤ st.framesSeen.toNat ∧
      (st.framesSeen.toNat = 2 ^ w - 1 ∨
        st.invalidFrames.toNat + st.crcFailures.toNat ≤ st.framesSeen.toNat) := by
  rw [CountersOrdered, BitVec.toNat_inj.symm, BitVec.toNat_allOnes]

theorem countersOrdered_zero {w : Nat} : CountersOrdered (⟨0, 0, 0⟩ : Stat w) := by
  simp [countersOrdered_iff]

/-- Counting a frame and, with it, one error at the most keeps the counters ordered. -/
theorem countersOrdered_count {w : Nat} {st st' : Stat w} (h : CountersOrdered st)
    (hseen : st'.framesSeen = satInc st.framesSeen)
    (herrors : (st'.invalidFrames = satInc st.invalidFrames ∧ st'.crcFailures = st.crcFailures) ∨
      (st'.invalidFrames = st.invalidFrames ∧ st'.crcFailures = satInc st.crcFailures) ∨
      (st'.invalidFrames = st.invalidFrames ∧ st'.crcFailures = st.crcFailures)) : CountersOrdered st' := by
  have hi := st.invalidFrames.isLt
  have hc := st.crcFailures.isLt
  rw [countersOrdered_iff] at h ⊢
  rw [hseen, satInc_toNat]
  rcases herrors with ⟨h1, h2⟩ | ⟨h1, h2⟩ | ⟨h1, h2⟩
  · rw [h1, h2, satInc_toNat]; omega
  · rw [h1, h2, satInc_toNat]; omega
  · rw [h1, h2]; omega

/-! ## Sound responses -/

/-- `es_class` is the code that `metype` and `mesub` select (30_encoding.md R101, 43_extended_squitter.md R220). -/
theorem esClass_esPayload (P : Parameters) (B : FrameBuf) :
    (esClass (esPayload P B)).toNat = classFor (metype B).toNat (mesub B).toNat := by
  simp only [esPayload]
  split_ifs
  all_goals
    rw [classFor]
    grind [esClass]

/-- The framed length of a downlink format, as a number (42_dispatch_common.md R161). -/
theorem bitLength_formatOf (df : BitVec 5) : (BitVec.ofNat 7 (formatBits (formatOf df))).toNat =
    if df.toNat ∈ [16, 17, 19, 20, 21] then 112 else 56 := by
  revert df
  decide

/-! ### When a group is present -/

section Presence

variable (P : Parameters) (B : FrameBuf) (N : Nat)

/-- The CA group is present exactly in format 11 (42_dispatch_common.md R162). -/
theorem groupsOver_ca_isSome : (groupsOver P B N).ca.isSome = true ↔ (downlinkFormat B).toNat = 11 := by
  have hlist : ∀ df : BitVec 5, df ∈ Config.caDf ↔ df.toNat = 11 := by decide
  rw [← hlist]
  by_cases h : downlinkFormat B ∈ Config.caDf <;> simp [groupsOver, h]

/-- The FS group is present exactly in its formats, with 3 bytes or more (R163, R164). -/
theorem groupsOver_fs_isSome :
    (groupsOver P B N).fs.isSome = true ↔ (downlinkFormat B).toNat ∈ [4, 5, 20, 21] ∧ 3 ≤ N := by
  have hlist : ∀ df : BitVec 5, df ∈ Config.fsDf ↔ df.toNat ∈ [4, 5, 20, 21] := by decide
  rw [← hlist]
  by_cases h : downlinkFormat B ∈ Config.fsDf <;> simp [groupsOver, fsGroup, h]

/-- The AC13 group is present exactly in its formats, with 4 bytes or more (R165). -/
theorem groupsOver_ac13_isSome :
    (groupsOver P B N).ac13.isSome = true ↔ (downlinkFormat B).toNat ∈ [0, 4, 16, 20] ∧ 4 ≤ N := by
  have hlist : ∀ df : BitVec 5, df ∈ Config.ac13Df ↔ df.toNat ∈ [0, 4, 16, 20] := by decide
  rw [← hlist]
  by_cases h : downlinkFormat B ∈ Config.ac13Df <;> simp [groupsOver, ac13Group, h]

/-- The ES group is present exactly in its formats, with 11 bytes or more (R167). -/
theorem groupsOver_es_isSome :
    (groupsOver P B N).es.isSome = true ↔ (downlinkFormat B).toNat ∈ [17, 18] ∧ 11 ≤ N := by
  have hlist : ∀ df : BitVec 5, df ∈ Config.esDf ↔ df.toNat ∈ [17, 18] := by decide
  rw [← hlist]
  simp [groupsOver]

/-- An ES group is the one of the payload that the sub-decoder dispatch selects (R166). -/
theorem groupsOver_es_eq_some {e : EsGroup} (h : (groupsOver P B N).es = some e) : e = esWith (esPayload P B) B := by
  obtain ⟨-, he⟩ := Option.ite_none_right_eq_some.1 h
  exact (Option.some.inj he).symm

end Presence

/-- The response to an accepted frame is sound (10_state.md R29, R30, R31). -/
theorem messageSound_frame (P : Parameters) {p : Payload} (h1 : 1 ≤ p.length) (h14 : p.length ≤ 14) :
    MessageSound (envelope P (formatOf (downlinkFormat (frameOf p))) (frameOf p) (BitVec.ofNat 4 p.length))
      (groupsOver P (frameOf p) p.length) := by
  have hlen : (envelope P (formatOf (downlinkFormat (frameOf p))) (frameOf p) (BitVec.ofNat 4 p.length)).rawLen.toNat =
      p.length := payloadLength_toNat h14
  constructor
  case rawLen => omega
  case rawFill => exact fun i hi _ => byte_frameOf_past p (by omega)
  case format => exact downlinkFormat_toNat _
  case bits => exact bitLength_formatOf _
  case valid => exact beq_iff_eq
  case ca => exact groupsOver_ca_isSome ..
  case fs => rw [hlen]; exact groupsOver_fs_isSome ..
  case ac13 => rw [hlen]; exact groupsOver_ac13_isSome ..
  case es => rw [hlen]; exact groupsOver_es_isSome ..
  case esClass =>
    intro e he
    rw [groupsOver_es_eq_some P _ _ he]
    exact ⟨metype_toNat _, mesub_toNat _, esClass_esPayload ..⟩

/-! ## Sound states -/

/-- The buffer of a loaded payload is zero past it (10_state.md R28, 20_memory.md R54). -/
theorem bufferFilled_load {w : Nat} {s : State w} {p : Payload} (hp : p.length ≤ 14) (hbuf : s.buf = frameOf p)
    (hn : s.n = BitVec.ofNat 4 p.length) : BufferFilled s := by
  have hlen : s.n.toNat = p.length := by rw [hn, payloadLength_toNat hp]
  exact ⟨by omega, fun i hi _ => hbuf ▸ byte_frameOf_past p (by omega)⟩

/-- A command that leaves the counters ordered and the buffer filled, and answers one sound response, keeps a state
sound. -/
theorem soundState_respond {w : Nat} {s : State w} (h : SoundState s) {t : State w} (hstat : CountersOrdered t.stat)
    (hbuf : BufferFilled t) {r : Response w} (hr : ResponseSound r) (hres : t.res = some r)
    (hdelivered : t.delivered = s.delivered ++ [r]) : SoundState t where
  counters := hstat
  buffer := hbuf
  res r' hr' := by
    obtain rfl : r = r' := Option.some.inj (hres.symm.trans hr')
    exact hr
  delivered r' hr' := by
    rw [hdelivered, List.mem_append, List.mem_singleton] at hr'
    rcases hr' with hr' | rfl
    · exact h.delivered r' hr'
    · exact hr

/-- The state after a reset event is sound when the responses delivered before it are. -/
theorem soundState_afterReset {w : Nat} {s : State w} (h : ∀ r ∈ s.delivered, ResponseSound r) :
    SoundState (afterReset s) where
  counters := countersOrdered_zero
  buffer := bufferFilled_load (p := []) (by decide) rfl rfl
  res _ hr := nomatch hr
  delivered := h

/-- Every step keeps the counters ordered, over any parameters and at any counter width. -/
theorem stepOver_keeps_countersOrdered {w : Nat} {P : Parameters} {s t : State w} (h : CountersOrdered s.stat)
    (ht : stepOver P s = .next t) : CountersOrdered t.stat := by
  rcases stepOver_cases ht with ⟨-, rfl⟩ | ⟨a, rest, -, rfl⟩ | ⟨c, rest, hm, -⟩
  · exact h
  · exact countersOrdered_zero
  · rcases stepOver_command_cases P hm with
      ⟨-, hs⟩ | ⟨-, hs⟩ | ⟨-, hs⟩ | ⟨-, p, -, hs⟩ | ⟨-, e, -, hs⟩ <;>
      obtain rfl := Host.Outcome.next.inj (ht.symm.trans hs)
    · exact h
    · exact h
    · exact countersOrdered_zero
    · refine countersOrdered_count h rfl (.inr ?_)
      rw [afterFrame_stat]
      split
      · exact .inr ⟨rfl, rfl⟩
      · exact .inl ⟨rfl, rfl⟩
    · exact countersOrdered_count h rfl (.inl ⟨rfl, rfl⟩)

/-- Every step keeps the invariant, over any parameters and at any counter width. -/
theorem stepOver_keeps_soundState {w : Nat} {P : Parameters} {s t : State w} (h : SoundState s)
    (ht : stepOver P s = .next t) : SoundState t := by
  have hstat := stepOver_keeps_countersOrdered h.counters ht
  rcases stepOver_cases ht with ⟨-, rfl⟩ | ⟨a, rest, -, rfl⟩ | ⟨c, rest, hm, -⟩
  · exact h
  · exact soundState_afterReset h.delivered
  · have hbuf : BufferFilled { s with moves := rest } := h.buffer
    rcases stepOver_command_cases P hm with
      ⟨-, hs⟩ | ⟨-, hs⟩ | ⟨-, hs⟩ | ⟨-, p, hv, hs⟩ | ⟨-, e, -, hs⟩ <;>
      obtain rfl := Host.Outcome.next.inj (ht.symm.trans hs)
    · exact soundState_respond h hstat hbuf (r := .empty) trivial rfl rfl
    · exact soundState_respond h hstat hbuf (r := .snapshot s.stat) h.counters rfl rfl
    · exact soundState_respond h hstat hbuf (r := .empty) trivial rfl rfl
    · obtain ⟨h1, h14, -⟩ := validate_loaded hv
      exact soundState_respond h hstat (bufferFilled_load h14 rfl rfl) (r := .ok _ _) (messageSound_frame P h1 h14) rfl rfl
    · exact soundState_respond h hstat hbuf (r := .error e) trivial rfl rfl

end Sys2Proof.Machine

namespace Sys2Proof.Proofs

open Sys2Proof Sys2Proof.Machine

/-- Settles O3, by the step's cases: what each move of the host does keeps the counters ordered and the buffer filled, and
answers a sound response. -/
theorem stepKeepsInvariant : Obligations.StepKeepsInvariant := by
  unfold Obligations.StepKeepsInvariant
  intro s t h ht
  exact stepOver_keeps_soundState h ((step_eq_stepOver s).symm.trans ht)

/-- Settles O2: the state after reset is the state after a reset event that finds nothing delivered. -/
theorem resetMeetsInvariant : Obligations.ResetMeetsInvariant :=
  soundState_afterReset (s := State.reset) fun _ hr => nomatch hr

end Sys2Proof.Proofs

/-! Decoding of encoded instructions and the rows of opcode_table.json: the class map's rows cover every frame once
(30_encoding.md R96, R97, R99), and the encoder's word decodes to its instruction. -/

namespace Sys2Proof

/-- A frame class is encoded as a DECODE of its payload's line (30_encoding.md R80, R100). -/
theorem encode_of_classRow {i : Instr} {r : ClassRow} {p : Payload} (h : classRow i = some (r, p)) :
    encode i = ⟨0b01, lineOf p⟩ := by
  cases i <;> cases h <;> rfl

/-- An instruction without a row is one of the four commands. -/
theorem command_of_classRow_none {i : Instr} (h : classRow i = none) :
    i = .nop ∨ (∃ line, i = .decode line) ∨ i = .statsRead ∨ i = .statsReset := by
  cases i <;> simp [classRow] at h ⊢

/-- A line that is not well formed is rejected, so its DECODE stays `decode line`. -/
theorem decode_of_not_isWireLine {line : Line} (h : isWireLine line = false) : decode ⟨0b01, line⟩ = .decode line := by
  cases hv : validate line with
  | raised e => simp [decode, hv]
  | loaded p =>
    have := (validate_loaded_iff line).1 ⟨p, hv⟩
    simp [h] at this

/-! ## The rows -/

/-- The row of an instruction is that of the payload and admits it. -/
def RowAdmits (i : Instr) (p : Payload) : Prop := ∃ r, classRow i = some (r, p) ∧ r.admits p = true

/-- An instruction whose row admits its payload is well formed. -/
theorem wellFormed_of_rowAdmits {i : Instr} {p : Payload} (h : RowAdmits i p) : WellFormed i := by
  obtain ⟨r, hr, hadmits⟩ := h
  simpa [WellFormed, wellFormed, hr] using hadmits

/-- An instruction whose row admits a payload is that payload's class. -/
theorem eq_classify_of_rowAdmits {i : Instr} {p : Payload} (h : RowAdmits i p) : i = classify p := by
  have hwf := wellFormed_of_rowAdmits h
  obtain ⟨r, hr, -⟩ := h
  exact (Laws.Classify.statement_of i hwf r p hr).1.symm

/-- Under the mask of the format's bits, the head is the format alone. -/
theorem head40_and_formatMask (p : Payload) :
    head40 p &&& (0xF800000000 : BitVec 40) = (downlinkFormat (frameOf p)).setWidth 40 <<< 35 := by
  rw [downlinkFormat_head]
  generalize head40 p = x
  ext i hi
  interval_cases i <;> simp

/-- Under the mask of the bits of the format and of `metype`, the head is the two alone. -/
theorem head40_and_metypeMask (p : Payload) : head40 p &&& (0xF8000000F8 : BitVec 40) =
    (downlinkFormat (frameOf p)).setWidth 40 <<< 35 ||| (metype (frameOf p)).setWidth 40 <<< 3 := by
  rw [downlinkFormat_head, metype_head]
  generalize head40 p = x
  ext i hi
  interval_cases i <;> simp

/-- Under the mask of the bits of the format, `metype` and `mesub`, the head is the three alone. -/
theorem head40_and_mesubMask (p : Payload) : head40 p &&& (0xF8000000FF : BitVec 40) =
    (downlinkFormat (frameOf p)).setWidth 40 <<< 35 ||| (metype (frameOf p)).setWidth 40 <<< 3 |||
      (mesub (frameOf p)).setWidth 40 := by
  rw [downlinkFormat_head, metype_head, mesub_head]
  generalize head40 p = x
  ext i hi
  interval_cases i <;> simp

section Rows

variable {i : Instr} {p : Payload} {df t u lo hi : Nat} (hdf : (downlinkFormat (frameOf p)).toNat = df)
  (hlo : lo ≤ p.length) (hhi : p.length ≤ hi)
include hdf hlo hhi

/-- A row that tests the format admits a payload of that format. -/
theorem rowAdmits_format
    (hrow : classRow i = some (⟨0xF800000000, BitVec.ofNat 40 df <<< 35, lo, hi⟩, p)) : RowAdmits i p := by
  refine ⟨_, hrow, (Laws.Classify.admits_iff _ _).2 ⟨?_, hlo, hhi⟩⟩
  rw [head40_and_formatMask, ← BitVec.ofNat_toNat, hdf]

/-- A row that tests the format and `metype` admits a payload of them. -/
theorem rowAdmits_metype (ht : (metype (frameOf p)).toNat = t)
    (hrow : classRow i = some (⟨0xF8000000F8, BitVec.ofNat 40 df <<< 35 ||| BitVec.ofNat 40 t <<< 3, lo, hi⟩, p)) :
    RowAdmits i p := by
  refine ⟨_, hrow, (Laws.Classify.admits_iff _ _).2 ⟨?_, hlo, hhi⟩⟩
  rw [head40_and_metypeMask, ← BitVec.ofNat_toNat, hdf, ← BitVec.ofNat_toNat, ht]

/-- A row that tests the format, `metype` and `mesub` admits a payload of them. -/
theorem rowAdmits_mesub (ht : (metype (frameOf p)).toNat = t) (hu : (mesub (frameOf p)).toNat = u)
    (hrow : classRow i = some
      (⟨0xF8000000FF, BitVec.ofNat 40 df <<< 35 ||| BitVec.ofNat 40 t <<< 3 ||| BitVec.ofNat 40 u, lo, hi⟩, p)) :
    RowAdmits i p := by
  refine ⟨_, hrow, (Laws.Classify.admits_iff _ _).2 ⟨?_, hlo, hhi⟩⟩
  rw [head40_and_mesubMask, ← BitVec.ofNat_toNat, hdf, ← BitVec.ofNat_toNat, ht, ← BitVec.ofNat_toNat, hu]

end Rows

/-- The row of a format-17 extended-squitter class admits its payload. -/
theorem rowAdmits_classifyEs17 {p : Payload} (hdf : (downlinkFormat (frameOf p)).toNat = 17) (hlo : 11 ≤ p.length)
    (hhi : p.length ≤ 14) : RowAdmits (classifyEs17 p) p := by
  have ht := (metype (frameOf p)).isLt
  have hu := (mesub (frameOf p)).isLt
  unfold classifyEs17
  split
  case h_20 ht19 =>
    split
    case h_8 =>
      simp only [imp_false] at *
      exact rowAdmits_mesub hdf hlo hhi ht19 (show _ = 7 by omega) rfl
    all_goals
      rename_i hk
      exact rowAdmits_mesub hdf hlo hhi ht19 hk rfl
  case h_32 =>
    simp only [imp_false] at *
    exact rowAdmits_metype hdf hlo hhi (show _ = 31 by omega) rfl
  all_goals
    rename_i hk
    exact rowAdmits_metype hdf hlo hhi hk rfl

/-- The row of a format-18 extended-squitter class admits its payload. -/
theorem rowAdmits_classifyEs18 {p : Payload} (hdf : (downlinkFormat (frameOf p)).toNat = 18) (hlo : 11 ≤ p.length)
    (hhi : p.length ≤ 14) : RowAdmits (classifyEs18 p) p := by
  have ht := (metype (frameOf p)).isLt
  have hu := (mesub (frameOf p)).isLt
  unfold classifyEs18
  split
  case h_20 ht19 =>
    split
    case h_8 =>
      simp only [imp_false] at *
      exact rowAdmits_mesub hdf hlo hhi ht19 (show _ = 7 by omega) rfl
    all_goals
      rename_i hk
      exact rowAdmits_mesub hdf hlo hhi ht19 hk rfl
  case h_32 =>
    simp only [imp_false] at *
    exact rowAdmits_metype hdf hlo hhi (show _ = 31 by omega) rfl
  all_goals
    rename_i hk
    exact rowAdmits_metype hdf hlo hhi hk rfl

/-- The row of a payload's class admits it: the rows cover every frame (30_encoding.md R96, R97). -/
theorem rowAdmits_classify {p : Payload} (h1 : 1 ≤ p.length) (h14 : p.length ≤ 14) : RowAdmits (classify p) p := by
  have hlt := (downlinkFormat (frameOf p)).isLt
  unfold classify
  -- `h_18` and `h_19` are formats 17 and 18, split again by the payload's length; `h_32` is the match's last arm.
  split
  case h_18 hdf =>
    split
    case isTrue hlo => exact rowAdmits_classifyEs17 hdf hlo h14
    case isFalse => exact rowAdmits_format hdf h1 (show p.length ≤ 10 by omega) rfl
  case h_19 hdf =>
    split
    case isTrue hlo => exact rowAdmits_classifyEs18 hdf hlo h14
    case isFalse => exact rowAdmits_format hdf h1 (show p.length ≤ 10 by omega) rfl
  case h_32 =>
    simp only [imp_false] at *
    exact rowAdmits_format (show _ = 31 by omega) h1 h14 rfl
  all_goals
    rename_i hk
    exact rowAdmits_format hk h1 h14 rfl

end Sys2Proof

namespace Sys2Proof.Proofs

open Sys2Proof Sys2Proof.Machine

/-- Settles O38: a frame class is encoded as the line of its payload, which loads that payload, whose class it is; a command
is encoded by its code. -/
theorem decodeOfEncode : Obligations.DecodeOfEncode := by
  unfold Obligations.DecodeOfEncode
  intro i hwf
  cases hr : classRow i with
  | some row =>
    obtain ⟨r, p⟩ := row
    obtain ⟨hclass, h1, h14⟩ := Laws.Classify.statement_of i hwf r p hr
    rw [encode_of_classRow hr]
    simp [decode, validate_lineOf h1 h14, hclass]
  | none =>
    rcases command_of_classRow_none hr with rfl | ⟨line, rfl⟩ | rfl | rfl
    · rfl
    · exact decode_of_not_isWireLine (by simpa [WellFormed, wellFormed, classRow] using hwf)
    · rfl
    · rfl

/-- Settles O39, by what a command word decodes to: a loaded payload's class is admitted by its row, and a rejected line is
no well-formed line. -/
theorem decodedIsWellFormed : Obligations.DecodedIsWellFormed := by
  unfold Obligations.DecodedIsWellFormed
  intro w
  rcases decode_cases w with ⟨-, hd⟩ | ⟨-, hd⟩ | ⟨-, hd⟩ | ⟨-, p, hv, hd⟩ | ⟨-, e, hv, hd⟩ <;> rw [hd]
  · rfl
  · rfl
  · rfl
  · obtain ⟨h1, h14, -⟩ := validate_loaded hv
    exact wellFormed_of_rowAdmits (rowAdmits_classify h1 h14)
  · have hnot : ¬ ∃ p, validate w.line = .loaded p := by simp [hv]
    rw [validate_loaded_iff] at hnot
    simpa [WellFormed, wellFormed, classRow] using hnot

/-- Settles O40: a row that admits a payload is its class's, and the row of its class admits it. -/
theorem rowsCoverEveryFrameOnce : Obligations.RowsCoverEveryFrameOnce := by
  unfold Obligations.RowsCoverEveryFrameOnce
  intro p h1 h14 i
  exact ⟨eq_classify_of_rowAdmits, fun h => h ▸ rowAdmits_classify h1 h14⟩

end Sys2Proof.Proofs

/-! The counters of 10_state.md and the commands of 44_commands.md, from what one step does with each move of the host: the
three counters together (R22 to R25), the snapshot after a run of DECODEs, NOP, STATS_READ, and what a step keeps. -/

namespace Sys2Proof.Machine

/-- With no move waiting the step keeps all state (60_exceptions.md R283). -/
theorem stepOver_idle {w : Nat} {P : Parameters} {s : State w} (hm : s.moves = []) : stepOver P s = .next s := by
  simp [stepOver, stepBy, fetch, hm]

/-- NOP at any counter width and over any parameters (44_commands.md R254). -/
theorem execOver_nop {w : Nat} (P : Parameters) (s : State w) : execOver P .nop s = .next (respond .empty s) := rfl

/-- STATS_READ at any counter width and over any parameters (44_commands.md R252). -/
theorem execOver_statsRead {w : Nat} (P : Parameters) (s : State w) :
    execOver P .statsRead s = .next (respond (.snapshot s.stat) s) := rfl

/-- Every step is answered by a next state, over any parameters and at any counter width. -/
theorem stepOver_completes {w : Nat} (P : Parameters) (s : State w) : ∃ t, stepOver P s = .next t := by
  cases hm : s.moves with
  | nil => exact ⟨s, stepOver_idle hm⟩
  | cons m rest =>
    cases m with
    | reset a => exact ⟨_, stepOver_reset hm⟩
    | command c =>
      rcases stepOver_command_cases P hm with
        ⟨-, hs⟩ | ⟨-, hs⟩ | ⟨-, hs⟩ | ⟨-, p, -, hs⟩ | ⟨-, e, -, hs⟩ <;> exact ⟨_, hs⟩

/-- Only STATS_RESET makes a counter smaller, of all the commands (10_state.md R22, R23, R24). -/
theorem stat_le_of_command {w : Nat} {P : Parameters} {s t : State w} {c : CommandWord} {rest : List HostMove}
    (hm : s.moves = .command c :: rest) (hc : c.code ≠ 0b11) (ht : stepOver P s = .next t) :
    s.stat.framesSeen.toNat ≤ t.stat.framesSeen.toNat ∧ s.stat.invalidFrames.toNat ≤ t.stat.invalidFrames.toNat ∧
      s.stat.crcFailures.toNat ≤ t.stat.crcFailures.toNat := by
  rcases stepOver_command_cases P hm with
    ⟨-, hs⟩ | ⟨-, hs⟩ | ⟨hreset, -⟩ | ⟨-, p, -, hs⟩ | ⟨-, e, -, hs⟩
  case inr.inr.inl => exact absurd hreset hc
  all_goals obtain rfl := Host.Outcome.next.inj (ht.symm.trans hs)
  · exact ⟨le_rfl, le_rfl, le_rfl⟩
  · exact ⟨le_rfl, le_rfl, le_rfl⟩
  · refine ⟨le_satInc_toNat _, le_rfl, ?_⟩
    rw [afterFrame_stat]
    split
    · exact le_rfl
    · exact le_satInc_toNat _
  · exact ⟨le_satInc_toNat _, le_satInc_toNat _, le_rfl⟩

/-! ## A run of DECODEs -/

/-- A counter of value `k` counts up `b` to `k + b`, as far as it holds. -/
theorem countUp_min {w : Nat} {c : Counter w} {k : Nat} (h : c.toNat = min k (2 ^ w - 1)) :
    (satInc c).toNat = min (k + 1) (2 ^ w - 1) := by
  rw [satInc_toNat, h]
  omega

/-- The counters after `seen` frames, `invalid` rejected lines and `failures` mismatches, each as far as it holds (R25). -/
def StatCounts {w : Nat} (st : Stat w) (seen invalid failures : Nat) : Prop :=
  st.framesSeen.toNat = min seen (2 ^ w - 1) ∧ st.invalidFrames.toNat = min invalid (2 ^ w - 1) ∧
    st.crcFailures.toNat = min failures (2 ^ w - 1)

/-- One DECODE counts its frame, and its line where that is rejected or mismatches. -/
theorem step_decode_counts {s : State} {line : Line} {rest : List HostMove} {seen invalid failures : Nat}
    (hm : s.moves = .command ⟨0b01, line⟩ :: rest) (hcounts : StatCounts s.stat seen invalid failures) :
    ∃ t, step s = .next t ∧ t.moves = rest ∧
      StatCounts t.stat (seen + 1) ([line].countP rejects + invalid) ([line].countP mismatches + failures) := by
  obtain ⟨hseen, hinvalid, hfailures⟩ := hcounts
  rw [step_eq_stepOver]
  cases hv : validate line with
  | raised e =>
    refine ⟨_, stepOver_decode_raised hm rfl hv, rfl, countUp_min hseen, ?_, ?_⟩
    · have := countUp_min hinvalid
      simpa [rejects_of_raised hv, Nat.add_comm] using this
    · simpa [mismatches, hv] using hfailures
  | loaded p =>
    refine ⟨_, stepOver_decode_loaded hm rfl hv, rfl, countUp_min hseen, ?_, ?_⟩
    · simpa [rejects_of_loaded hv] using hinvalid
    · have hvalid : (envelope Config.parameters (formatOf (downlinkFormat (frameOf p))) (frameOf p)
          (BitVec.ofNat 4 p.length)).crcValid = !mismatches line := by
        rw [mismatches_of_loaded hv, Bool.not_not]
        rfl
      rw [afterFrame_stat, hvalid]
      cases hmis : mismatches line
      · simpa [hmis] using hfailures
      · have := countUp_min hfailures
        simpa [hmis, Nat.add_comm] using this

/-- A run of DECODEs counts each of its lines. -/
theorem run_decodes_counts (lines : List Line) : ∀ {s : State} {rest : List HostMove} {seen invalid failures : Nat},
    s.moves = (lines.map fun l => .command ⟨0b01, l⟩) ++ rest → StatCounts s.stat seen invalid failures →
    ∃ t : State, core.run lines.length s = .next t ∧ t.moves = rest ∧
      StatCounts t.stat (seen + lines.length) (lines.countP rejects + invalid) (lines.countP mismatches + failures) := by
  induction lines with
  | nil =>
    intro s rest seen invalid failures hm hcounts
    exact ⟨s, rfl, hm, by simpa using hcounts⟩
  | cons line lines ih =>
    intro s rest seen invalid failures hm hcounts
    obtain ⟨t, ht, hmoves, hcounts⟩ := step_decode_counts hm hcounts
    obtain ⟨u, hu, hrest, hcounts⟩ := ih hmoves hcounts
    have hadd (q : Line → Bool) (k : Nat) : (line :: lines).countP q + k = lines.countP q + ([line].countP q + k) := by
      rw [List.countP_cons, List.countP_singleton]
      omega
    refine ⟨u, (run_succ core ht).trans hu, hrest, ?_⟩
    rw [hadd, hadd, List.length_cons, show seen + (lines.length + 1) = seen + 1 + lines.length by omega]
    exact hcounts

end Sys2Proof.Machine

namespace Sys2Proof.Proofs

open Sys2Proof Sys2Proof.Machine

/-- Settles O4, by the step's cases: idle keeps the counters, and of the commands only STATS_RESET makes one smaller. -/
theorem countersFallOnlyByReset : Obligations.CountersFallOnlyByReset := by
  unfold Obligations.CountersFallOnlyByReset
  intro s t ht hnoReset hnoClear
  rcases step_cases ht with ⟨-, rfl⟩ | ⟨a, rest, hm, -⟩ | ⟨c, rest, hm, -⟩
  · exact ⟨le_rfl, le_rfl, le_rfl⟩
  · exact absurd hm (hnoReset a rest)
  · exact stat_le_of_command hm (hnoClear c rest hm) ((step_eq_stepOver s).symm.trans ht)

/-- Settles O5, by the step's cases on the command: a DECODE counts its frame whatever the validator's verdict. -/
theorem framesSeenCountsEveryDecode : Obligations.FramesSeenCountsEveryDecode := by
  unfold Obligations.FramesSeenCountsEveryDecode
  simp only [step_eq_stepOver]
  constructor
  · intro s c rest hm
    rcases stepOver_command_cases Config.parameters hm with
      ⟨hc, hs⟩ | ⟨hc, hs⟩ | ⟨hc, hs⟩ | ⟨hc, p, -, hs⟩ | ⟨hc, e, -, hs⟩
    · exact ⟨_, hs, by simp [hc]⟩
    · exact ⟨_, hs, by simp [hc]⟩
    · exact ⟨_, hs, by simp [hc]⟩
    · exact ⟨_, hs, by simp [hc, satInc_toNat_eq_countedUp]⟩
    · exact ⟨_, hs, by simp [hc, satInc_toNat_eq_countedUp]⟩
  · intro s a rest hm
    exact ⟨_, stepOver_reset hm, by simp⟩

/-- Settles O8: the run is the step of STATS_RESET, which leaves zero counts, the run of the DECODEs, which counts each of
them, and the step of STATS_READ, which answers the counts. -/
theorem snapshotCountsTheDecodes : Obligations.SnapshotCountsTheDecodes := by
  unfold Obligations.SnapshotCountsTheDecodes
  intro lines read clear rest s hm
  have hclear : step s = .next (respond .empty (clearCounters { s with
      moves := (lines.map fun l => .command ⟨0b01, l⟩) ++ .command ⟨0b10, read⟩ :: rest })) :=
    (step_eq_stepOver s).trans (stepOver_command hm)
  obtain ⟨t, ht, hmoves, hseen, hinvalid, hfailures⟩ :=
    run_decodes_counts lines (s := respond .empty (clearCounters { s with
        moves := (lines.map fun l => .command ⟨0b01, l⟩) ++ .command ⟨0b10, read⟩ :: rest }))
      (seen := 0) (invalid := 0) (failures := 0) rfl ⟨rfl, rfl, rfl⟩
  have hread : step t = .next (respond (.snapshot t.stat) { t with moves := rest }) :=
    (step_eq_stepOver t).trans (stepOver_command hmoves)
  refine ⟨respond (.snapshot t.stat) { t with moves := rest }, t.stat, ?_, respond_moves .., respond_res .., ?_, hinvalid,
    hfailures⟩
  · rw [run_succ core hclear, run_add core lines.length 1 ht, run_succ core hread]
    rfl
  · rw [hseen, Nat.zero_add]

/-- Settles O1, by the fields of the reset state. -/
theorem resetLeavesCountersZero : Obligations.ResetLeavesCountersZero := ⟨rfl, rfl, rfl, rfl⟩

/-- Settles O9: NOP responds and does nothing else. -/
theorem nopChangesNothing : Obligations.NopChangesNothing :=
  fun s => (exec_eq_execOver _ s).trans (execOver_nop Config.parameters s)

/-- Settles O10: STATS_READ responds with its snapshot and does nothing else. -/
theorem statsReadAnswersTheCounters : Obligations.StatsReadAnswersTheCounters :=
  fun s => (exec_eq_execOver _ s).trans (execOver_statsRead Config.parameters s)

/-- Settles O44: a command is taken whole, and an encoded instruction decodes to itself. -/
theorem stepRunsTheDecodedInstruction : Obligations.StepRunsTheDecodedInstruction := by
  unfold Obligations.StepRunsTheDecodedInstruction
  have hcommand : ∀ (s : State) (c : CommandWord) (rest : List HostMove), s.moves = .command c :: rest →
      step s = exec (decode c) { s with moves := rest } := by
    intro s c rest hm
    rw [step_eq_stepOver, stepOver_command hm, exec_eq_execOver]
  refine ⟨hcommand, fun i hwf s rest hm => ?_⟩
  rw [hcommand s _ rest hm, decodeOfEncode i hwf]

/-- Settles O45: with no move, the port is idle. -/
theorem idleKeepsAllState : Obligations.IdleKeepsAllState :=
  fun s hm => (step_eq_stepOver s).trans (stepOver_idle hm)

/-- Settles O46, by the fields of the state after a reset event. -/
theorem resetEventAnswersNothing : Obligations.ResetEventAnswersNothing :=
  fun s _ _ hm => ⟨_, (step_eq_stepOver s).trans (stepOver_reset hm), afterReset_stat _, afterReset_res _,
    afterReset_delivered _, afterReset_moves _⟩

/-- Settles O47, by the host's next move: idle, a reset event, or a command, each of which has a next state. -/
theorem everyStepCompletes : Obligations.EveryStepCompletes := by
  unfold Obligations.EveryStepCompletes
  intro s
  rw [step_eq_stepOver]
  exact stepOver_completes Config.parameters s

/-- Settles O48, by the step's cases on the command: each ends in one response, and takes nothing but its own move. -/
theorem everyCommandAnswersOnce : Obligations.EveryCommandAnswersOnce := by
  unfold Obligations.EveryCommandAnswersOnce
  simp only [step_eq_stepOver]
  intro s c rest hm
  rcases stepOver_command_cases Config.parameters hm with
    ⟨-, hs⟩ | ⟨-, hs⟩ | ⟨-, hs⟩ | ⟨-, p, -, hs⟩ | ⟨-, e, -, hs⟩
  · exact ⟨_, _, hs, respond_res .., respond_delivered .., respond_moves ..⟩
  · exact ⟨_, _, hs, respond_res .., respond_delivered .., respond_moves ..⟩
  · exact ⟨_, _, hs, respond_res .., respond_delivered .., respond_moves ..⟩
  · exact ⟨_, _, hs, afterFrame_res .., afterFrame_delivered .., afterFrame_moves ..⟩
  · exact ⟨_, _, hs, raiseError_res .., raiseError_delivered .., raiseError_moves ..⟩

/-- Settles O49, by the validator's verdict: an error, or a response made of the payload alone. -/
theorem responseDependsOnTheLineAlone : Obligations.ResponseDependsOnTheLineAlone := by
  unfold Obligations.ResponseDependsOnTheLineAlone
  simp only [step_eq_stepOver]
  intro s s' line rest rest' hm hm'
  cases hv : validate line with
  | raised e =>
    exact ⟨_, _, stepOver_decode_raised hm rfl hv, stepOver_decode_raised hm' rfl hv,
      (raiseError_res ..).trans (raiseError_res ..).symm⟩
  | loaded p =>
    exact ⟨_, _, stepOver_decode_loaded hm rfl hv, stepOver_decode_loaded hm' rfl hv,
      (afterFrame_res ..).trans (afterFrame_res ..).symm⟩

/-- Settles O50, by the step's cases on the command: only the one that carries a frame loads it. -/
theorem onlyTheFrameLoadWritesTheBuffer : Obligations.OnlyTheFrameLoadWritesTheBuffer := by
  unfold Obligations.OnlyTheFrameLoadWritesTheBuffer
  simp only [step_eq_stepOver]
  intro s c rest hm
  rcases stepOver_command_cases Config.parameters hm with
    ⟨-, hs⟩ | ⟨-, hs⟩ | ⟨-, hs⟩ | ⟨hc, p, hv, hs⟩ | ⟨-, e, -, hs⟩
  · exact ⟨_, hs, .inl ⟨rfl, rfl⟩⟩
  · exact ⟨_, hs, .inl ⟨rfl, rfl⟩⟩
  · exact ⟨_, hs, .inl ⟨rfl, rfl⟩⟩
  · obtain ⟨-, h14, -⟩ := validate_loaded hv
    exact ⟨_, hs, .inr ⟨p, hc, hv, afterFrame_buf .., payloadLength_toNat h14⟩⟩
  · exact ⟨_, hs, .inl ⟨rfl, rfl⟩⟩

end Sys2Proof.Proofs

/-! The fields of 30_encoding.md sections 2 and 3: a byte is eight message bits, a slice of a field is a field, and two
fields that follow each other are one. So every byte slice is its run of message bits. -/

namespace Sys2Proof.Machine

/-- A byte of the buffer is its eight message bits (00_scope.md R10). -/
theorem byte_eq_messageField (B : FrameBuf) {i : Nat} (hi : i < 14) : B.byte i = messageField B (8 * i) 8 := by
  ext j hj
  rw [← BitVec.getLsbD_eq_getElem, ← BitVec.getLsbD_eq_getElem, messageField_getLsbD B _ _ _ hj (by omega), messageBit,
    show (8 * i + 8 - 1 - j) / 8 = i by omega, show 7 - (8 * i + 8 - 1 - j) % 8 = j by omega]

/-- A slice of a message field is a message field. -/
theorem messageField_slice (B : FrameBuf) {lo width : Nat} (start len : Nat) (hwidth : start + len ≤ width)
    (hfit : lo + width ≤ 112) :
    (messageField B lo width).extractLsb' start len = messageField B (lo + width - start - len) len := by
  ext j hj
  rw [← BitVec.getLsbD_eq_getElem, ← BitVec.getLsbD_eq_getElem, BitVec.getLsbD_extractLsb',
    messageField_getLsbD B _ _ _ hj (by omega), messageField_getLsbD B _ _ _ (by omega) hfit]
  simp only [hj, decide_true, Bool.true_and]
  congr 1
  omega

/-- A slice of a byte is the message field of its bits. -/
theorem byteSlice_eq_messageField (B : FrameBuf) (i hi lo : Nat) (h : i < 14 ∧ lo ≤ hi ∧ hi ≤ 7) :
    (B.byte i).extractLsb hi lo = messageField B (8 * i + 7 - hi) (hi - lo + 1) := by
  rw [byte_eq_messageField B h.1, BitVec.extractLsb, messageField_slice B lo _ (by omega) (by omega),
    show 8 * i + 8 - lo - (hi - lo + 1) = 8 * i + 7 - hi by omega]

/-- A bit of a byte is a message bit. -/
theorem byteBit_eq_messageBit (B : FrameBuf) {i k : Nat} (hk : k ≤ 7) :
    (B.byte i).getLsbD k = messageBit B (8 * i + 7 - k) := by
  rw [messageBit, show (8 * i + 7 - k) / 8 = i by omega, show 7 - (8 * i + 7 - k) % 8 = k by omega]

/-- Two message fields that follow each other make one (00_scope.md R11). -/
theorem messageField_append (B : FrameBuf) (lo m n : Nat) (hfit : lo + m + n ≤ 112) :
    messageField B lo m ++ messageField B (lo + m) n = messageField B lo (m + n) := by
  ext j hj
  rw [← BitVec.getLsbD_eq_getElem, ← BitVec.getLsbD_eq_getElem, BitVec.getLsbD_append,
    messageField_getLsbD B lo (m + n) j hj (by omega)]
  split
  · rw [messageField_getLsbD B _ n j ‹_› (by omega)]
    congr 1
    omega
  · rw [messageField_getLsbD B lo m _ (by omega) (by omega)]
    congr 1
    omega

end Sys2Proof.Machine

namespace Sys2Proof.Proofs

open Sys2Proof Sys2Proof.Machine

/-- Settles O29: each slice of a byte is a message field, and the pieces of a field follow each other. -/
theorem byteSlicesAreMessageBits : Obligations.ByteSlicesAreMessageBits := by
  unfold Obligations.ByteSlicesAreMessageBits
  intro B
  have slice (i hi lo : Nat) (h : i < 14 ∧ lo ≤ hi ∧ hi ≤ 7) := byteSlice_eq_messageField B i hi lo h
  have byte (i : Nat) (h : i < 14) := byte_eq_messageField B h
  have cat (lo m n : Nat) (h : lo + m + n ≤ 112) := messageField_append B lo m n h
  refine ⟨?_, slice 0 7 3 (by decide), slice 0 2 0 (by decide), slice 0 2 0 (by decide), ?_, slice 1 7 3 (by decide), ?_,
    byteBit_eq_messageBit B (by decide), byteBit_eq_messageBit B (by decide), ?_, slice 4 7 3 (by decide),
    slice 4 2 0 (by decide), ?_, ?_, byteBit_eq_messageBit B (by decide), ?_, byteBit_eq_messageBit B (by decide),
    byteBit_eq_messageBit B (by decide), ?_, ?_, byteBit_eq_messageBit B (by decide), ?_⟩
  · intro j hj
    rw [messageBit_eq B hj, BitVec.getMsbD_eq_getLsbD]
    simp [hj]
  · rw [address, byte 1 (by decide), byte 2 (by decide), byte 3 (by decide)]
    exact (congrArg (· ++ messageField B 24 8) (cat 8 8 8 (by decide))).trans (cat 8 16 8 (by decide))
  · rw [utilityMessage, slice 1 2 0 (by decide), slice 2 7 5 (by decide)]
    exact cat 13 3 3 (by decide)
  · rw [ac13N, slice 2 4 0 (by decide), slice 3 7 7 (by decide), slice 3 5 5 (by decide), slice 3 3 0 (by decide)]
    exact congrArg (· ++ messageField B 26 1 ++ messageField B 28 4) (cat 19 5 1 (by decide))
  · rw [crcValue, formatBytes, byte _ (by decide), byte _ (by decide), byte _ (by decide)]
    exact (congrArg (· ++ messageField B 48 8) (cat 32 8 8 (by decide))).trans (cat 32 16 8 (by decide))
  · rw [crcValue, formatBytes, byte _ (by decide), byte _ (by decide), byte _ (by decide)]
    exact (congrArg (· ++ messageField B 104 8) (cat 88 8 8 (by decide))).trans (cat 88 16 8 (by decide))
  · rw [ac12N, slice 5 7 1 (by decide), slice 6 7 4 (by decide)]
  · rw [rawLatitude, slice 6 1 0 (by decide), byte 7 (by decide), slice 8 7 1 (by decide)]
    exact (congrArg (· ++ messageField B 64 7) (cat 54 2 8 (by decide))).trans (cat 54 10 7 (by decide))
  · rw [rawLongitude, slice 8 0 0 (by decide), byte 9 (by decide), byte 10 (by decide)]
    exact (congrArg (· ++ messageField B 80 8) (cat 71 1 8 (by decide))).trans (cat 71 9 8 (by decide))
  · rw [headingRaw, slice 5 1 0 (by decide), slice 6 7 3 (by decide)]
    exact cat 46 2 5 (by decide)

end Sys2Proof.Proofs

/-! The frame classes of 30_encoding.md R96 and R97 by the shape of their response: what a class of each list answers over any
parameters, and the fields of its groups by arithmetic on the payload's bytes (42_dispatch_common.md, 43_extended_squitter.md). -/

namespace Sys2Proof.Machine

/-! ## What a frame class answers -/

/-- A well-formed frame class answers the state after its frame, with the framing and the groups that the frame's downlink
format selects. -/
theorem execOver_frameClass {w : Nat} (P : Parameters) {i : Instr} {r : ClassRow} {p : Payload}
    (hr : classRow i = some (r, p)) (hwf : WellFormed i) (s : State w) :
    execOver P i s = .next (afterFrame s p
      (envelope P (formatOf (downlinkFormat (frameOf p))) (frameOf p) (BitVec.ofNat 4 p.length))
      (groupsOver P (frameOf p) p.length)) := by
  obtain ⟨hclass, -, h14⟩ := Laws.Classify.statement_of i hwf r p hr
  rw [← hclass, execOver_classify P h14, acceptFrame_eq _ _ _ _ _ h14]

/-- A class of a list, with its format: it has a row, and its meaning is the accepted frame with these groups. -/
def RunsWith (c : (Payload → Instr) × FrameFormat) (groups : Parameters → FrameBuf → Nat → Groups) : Prop :=
  ∀ p, (∃ r, classRow (c.1 p) = some (r, p)) ∧
    ∀ (P : Parameters) (w : Nat) (s : State w), execOver P (c.1 p) s = acceptFrame P c.2 (groups P) p s

/-- A well-formed instruction of such a class answers the state after its frame, with the arithmetic of its envelope. -/
theorem RunsWith.answers {c : (Payload → Instr) × FrameFormat} {groups : Parameters → FrameBuf → Nat → Groups}
    (h : RunsWith c groups) (P : Parameters) {p : Payload} (hwf : WellFormed (c.1 p)) {w : Nat} (s : State w) :
    execOver P (c.1 p) s = .next (afterFrame s p (envelope P c.2 (frameOf p) (BitVec.ofNat 4 p.length))
      (groups P (frameOf p) p.length)) ∧
    EnvelopeOver P.crcTable c.2 p (envelope P c.2 (frameOf p) (BitVec.ofNat 4 p.length)) := by
  obtain ⟨⟨r, hr⟩, hexec⟩ := h p
  obtain ⟨-, -, h14⟩ := Laws.Classify.statement_of _ hwf r p hr
  exact ⟨by rw [hexec, acceptFrame_eq _ _ _ _ _ h14], envelope_envelopeOver P c.2 h14⟩

/-- The one group of an extended-squitter class with this payload (43_extended_squitter.md R220). -/
def squitterGroups (payload : Parameters → FrameBuf → EsPayload) (P : Parameters) (B : FrameBuf) (_ : Nat) : Groups :=
  { noGroups with es := some (esWith (payload P B) B) }

section Classes

variable {c : (Payload → Instr) × FrameFormat}

/-- 42_dispatch_common.md R171 to R201; 30_encoding.md R97 for formats 17 and 18 with at most 10 bytes. -/
theorem runsWith_of_mem_envelopeOnlyClasses (hc : c ∈ envelopeOnlyClasses) : RunsWith c fun _ _ _ => noGroups := by
  unfold envelopeOnlyClasses at hc
  fin_cases hc <;> exact fun p => ⟨⟨_, rfl⟩, fun _ _ _ => rfl⟩

/-- 43_extended_squitter.md R221. -/
theorem runsWith_of_mem_identClasses (hc : c ∈ identClasses) :
    RunsWith c (squitterGroups fun P B => .ident (callsignOver P.charSet B)) := by
  unfold identClasses at hc
  fin_cases hc <;> exact fun p => ⟨⟨_, rfl⟩, fun _ _ _ => rfl⟩

/-- 43_extended_squitter.md R223. -/
theorem runsWith_of_mem_airposClasses (hc : c ∈ airposClasses) :
    RunsWith c (squitterGroups fun _ B => .airPos (airPosFields B)) := by
  unfold airposClasses at hc
  fin_cases hc <;> exact fun p => ⟨⟨_, rfl⟩, fun _ _ _ => rfl⟩

/-- 43_extended_squitter.md R224. -/
theorem runsWith_of_mem_velGsClasses (hc : c ∈ velGsClasses) :
    RunsWith c (squitterGroups fun P B => .velGs (velGsOver P.velLayout P.dirNeg B)) := by
  unfold velGsClasses at hc
  fin_cases hc <;> exact fun p => ⟨⟨_, rfl⟩, fun _ _ _ => rfl⟩

/-- 43_extended_squitter.md R227. -/
theorem runsWith_of_mem_velHdgClasses (hc : c ∈ velHdgClasses) :
    RunsWith c (squitterGroups fun _ B => .velHdg (velHdgFields B)) := by
  unfold velHdgClasses at hc
  fin_cases hc <;> exact fun p => ⟨⟨_, rfl⟩, fun _ _ _ => rfl⟩

end Classes

/-! ## The bits of bytes 5 to 10 -/

/-- Message bits 40 to 87 of a loaded payload as a number (30_encoding.md R91). -/
theorem messageField_toNat_eq_esNumber (p : Payload) : (messageField (frameOf p) 40 48).toNat = esNumber p := by
  have byte (i : Nat) (hi : i < 14) := byte_eq_messageField (frameOf p) hi
  have cat (m n : Nat) (h : 40 + m + n ≤ 112) := messageField_append (frameOf p) 40 m n h
  rw [← cat 40 8 (by decide), ← cat 32 8 (by decide), ← cat 24 8 (by decide), ← cat 16 8 (by decide),
    ← cat 8 8 (by decide)]
  rw [← byte 5 (by decide), ← byte 6 (by decide), ← byte 7 (by decide), ← byte 8 (by decide), ← byte 9 (by decide),
    ← byte 10 (by decide)]
  simp only [toNat_cat, Nat.reducePow]
  rw [byte_frameOf_toNat p (by decide), byte_frameOf_toNat p (by decide), byte_frameOf_toNat p (by decide),
    byte_frameOf_toNat p (by decide), byte_frameOf_toNat p (by decide), byte_frameOf_toNat p (by decide), esNumber]

/-- A message field inside bytes 5 to 10 of a loaded payload is those bits of their number (00_scope.md R10). -/
theorem messageField_toNat_eq_esBits (p : Payload) {lo width : Nat} (hlo : 40 ≤ lo) (hhi : lo + width ≤ 88) :
    (messageField (frameOf p) lo width).toNat = esBits p lo width := by
  have hslice := messageField_slice (frameOf p) (lo := 40) (width := 48) (88 - lo - width) width (by omega) (by decide)
  rw [show 40 + 48 - (88 - lo - width) - width = lo by omega] at hslice
  rw [← hslice, BitVec.extractLsb'_toNat, messageField_toNat_eq_esNumber, Nat.shiftRight_eq_div_pow, esBits]

/-- A message bit inside bytes 5 to 10 is a field of one bit. -/
theorem messageBit_iff_esBits (p : Payload) {j : Nat} (hlo : 40 ≤ j) (hhi : j + 1 ≤ 88) :
    messageBit (frameOf p) j = true ↔ esBits p j 1 = 1 := by
  have hbit : messageBit (frameOf p) j = (messageField (frameOf p) j 1).getLsbD 0 :=
    (messageField_getLsbD _ j 1 0 (by decide) (by omega)).symm
  rw [hbit, ← messageField_toNat_eq_esBits p hlo hhi, ← BitVec.testBit_toNat, Nat.testBit_zero, decide_eq_true_iff,
    Nat.mod_eq_of_lt (messageField (frameOf p) j 1).isLt]

/-! ## The callsign -/

/-- The symbol at character `k` is the set's at the code's index (43_extended_squitter.md R221). -/
theorem callsignOver_getElem? {charSet : List Byte} (hset : charSet.length = 64) (p : Payload) {k : Nat} (hk : k < 8) :
    (callsignOver charSet (frameOf p))[k]? = charSet[esBits p (40 + 6 * k) 6]? := by
  have hcode : (charCode (frameOf p) k).toNat = esBits p (40 + 6 * k) 6 :=
    messageField_toNat_eq_esBits p (by omega) (by omega)
  have hlt : esBits p (40 + 6 * k) 6 < charSet.length := by
    rw [hset, ← hcode]
    exact (charCode (frameOf p) k).isLt
  simp [callsignOver, hk, hcode, hlt]

/-! ## The ground speed -/

/-- The ground speed is the floor of the root of the sum of squares (43_extended_squitter.md R225). -/
theorem groundSpeed_spec (ew ns : BitVec 10) :
    (groundSpeed ew ns).toNat ^ 2 ≤ ns.toNat ^ 2 + ew.toNat ^ 2 ∧
      ns.toNat ^ 2 + ew.toNat ^ 2 < ((groundSpeed ew ns).toNat + 1) ^ 2 := by
  have hsq (b : BitVec 10) : b.toNat ^ 2 ≤ 1023 ^ 2 := Nat.pow_le_pow_left (Nat.le_of_lt_succ b.isLt) 2
  have hew := hsq ew
  have hns := hsq ns
  have hroot := isqrt_spec (v := ns.toNat ^ 2 + ew.toNat ^ 2) (by omega)
  have hfits : isqrt (ns.toNat ^ 2 + ew.toNat ^ 2) < 2 ^ 11 := by
    by_contra hc
    have := Nat.mul_le_mul (Nat.not_lt.1 hc) (Nat.not_lt.1 hc)
    omega
  rw [groundSpeed, BitVec.toNat_ofNat, Nat.mod_eq_of_lt hfits, Nat.pow_two (isqrt _), Nat.pow_two (isqrt _ + 1)]
  exact hroot

/-! ## The common fields of formats 0, 4, 5, 16, 20 and 21 -/

/-- A row that fixes the downlink format. -/
def RowFixesFormat (i : Instr) (p : Payload) (df : Nat) : Prop :=
  ∃ r, classRow i = some (r, p) ∧ r.mask.extractLsb' 35 5 = BitVec.allOnes 5 ∧ (r.want.extractLsb' 35 5).toNat = df

/-- A well-formed instruction with such a row answers the state after its frame, whose downlink format is the row's. -/
theorem RowFixesFormat.answers {i : Instr} {p : Payload} {df : Nat} (h : RowFixesFormat i p df) (P : Parameters)
    (hwf : WellFormed i) {w : Nat} (s : State w) :
    (downlinkFormat (frameOf p)).toNat = df ∧ byteNat p 0 / 8 = df ∧
    execOver P i s = .next (afterFrame s p (envelope P (formatOf (BitVec.ofNat 5 df)) (frameOf p)
      (BitVec.ofNat 4 p.length)) (groupsOver P (frameOf p) p.length)) ∧
    EnvelopeOver P.crcTable (formatOf (BitVec.ofNat 5 df)) p
      (envelope P (formatOf (BitVec.ofNat 5 df)) (frameOf p) (BitVec.ofNat 4 p.length)) := by
  obtain ⟨r, hr, hmask, hwant⟩ := h
  obtain ⟨hhead, -, -⟩ := Laws.Classify.row_facts hr hwf
  obtain ⟨-, -, h14⟩ := Laws.Classify.statement_of i hwf r p hr
  have hdf : (downlinkFormat (frameOf p)).toNat = df := (Laws.Classify.format_of_head hhead hmask).trans hwant
  have hbyte : byteNat p 0 / 8 = df := by rw [← hdf, downlinkFormat_toNat, byte_frameOf_toNat p (by decide)]
  have hformat : BitVec.ofNat 5 df = downlinkFormat (frameOf p) := by
    rw [← hdf, BitVec.ofNat_toNat, BitVec.setWidth_eq]
  rw [hformat]
  exact ⟨hdf, hbyte, execOver_frameClass P hr hwf s, envelope_envelopeOver P _ h14⟩

section Presence

variable {P : Parameters} {B : FrameBuf} {N : Nat}

/-- No CA group outside format 11. -/
theorem groupsOver_ca_eq_none (h : (downlinkFormat B).toNat ≠ 11) : (groupsOver P B N).ca = none := by
  rwa [← Option.not_isSome_iff_eq_none, groupsOver_ca_isSome]

/-- No FS group outside its formats, or with 2 bytes or fewer. -/
theorem groupsOver_fs_eq_none (h : (downlinkFormat B).toNat ∈ [4, 5, 20, 21] → N < 3) : (groupsOver P B N).fs = none := by
  rw [← Option.not_isSome_iff_eq_none, groupsOver_fs_isSome]
  exact fun ⟨hmem, hN⟩ => absurd (h hmem) (Nat.not_lt.2 hN)

/-- No AC13 group outside its formats, or with 3 bytes or fewer. -/
theorem groupsOver_ac13_eq_none (h : (downlinkFormat B).toNat ∈ [0, 4, 16, 20] → N < 4) :
    (groupsOver P B N).ac13 = none := by
  rw [← Option.not_isSome_iff_eq_none, groupsOver_ac13_isSome]
  exact fun ⟨hmem, hN⟩ => absurd (h hmem) (Nat.not_lt.2 hN)

/-- No ES group outside its formats. -/
theorem groupsOver_es_eq_none (h : (downlinkFormat B).toNat ∉ [17, 18]) : (groupsOver P B N).es = none := by
  rw [← Option.not_isSome_iff_eq_none, groupsOver_es_isSome]
  exact fun ⟨hmem, _⟩ => h hmem

/-- A present FS group has the fields of the buffer (R163, R164). -/
theorem groupsOver_fs_eq_some (h : (groupsOver P B N).fs.isSome = true) : (groupsOver P B N).fs = some (fsFields B) := by
  unfold groupsOver fsGroup at h ⊢
  grind

/-- A present AC13 group has the fields of the buffer (R165). -/
theorem groupsOver_ac13_eq_some (h : (groupsOver P B N).ac13.isSome = true) :
    (groupsOver P B N).ac13 = some (ac13Fields B) := by
  unfold groupsOver ac13Group at h ⊢
  grind

end Presence

/-! ## The fields by arithmetic on the payload's bytes -/

variable (p : Payload)

/-- The AC13 fields (42_dispatch_common.md R165, 30_encoding.md R88). -/
theorem ac13Fields_frameOf :
    ((ac13Fields (frameOf p)).m = true ↔ byteNat p 3 / 64 % 2 = 1) ∧
    ((ac13Fields (frameOf p)).q = true ↔ byteNat p 3 / 16 % 2 = 1) ∧
    ((ac13Fields (frameOf p)).unit = .metres ↔ (ac13Fields (frameOf p)).m = true) ∧
    ((ac13Fields (frameOf p)).m = false ∧ (ac13Fields (frameOf p)).q = true → (ac13Fields (frameOf p)).altitude =
      some ((25 : Int) * (((byteNat p 2 % 32) * 64 + (byteNat p 3 / 128) * 32 + (byteNat p 3 / 32 % 2) * 16 +
        byteNat p 3 % 16 : Nat) : Int) - (1000 : Int))) ∧
    ((ac13Fields (frameOf p)).m = true ∨ (ac13Fields (frameOf p)).q = false → (ac13Fields (frameOf p)).altitude = none) := by
  have hbyte (i : Nat) (hi : i < 14) := byte_frameOf_toNat p hi
  have hn := ac13N_toNat (frameOf p)
  rw [hbyte 2 (by decide), hbyte 3 (by decide)] at hn
  refine ⟨?_, ?_, ?_, ?_, ?_⟩
  · rw [← hbyte 3 (by decide)]
    exact bit_iff ((frameOf p).byte 3) 6
  · rw [← hbyte 3 (by decide)]
    exact bit_iff ((frameOf p).byte 3) 4
  · simp [ac13Fields]
  · rintro ⟨hm, hq⟩
    replace hm : ac13M (frameOf p) = false := hm
    replace hq : ac13Q (frameOf p) = true := hq
    rw [← hn]
    simp [ac13Fields, hm, hq, altitudeFeet, Config.altStep, Config.altBias]
  · intro h
    refine if_neg ?_
    replace h : ac13M (frameOf p) = true ∨ ac13Q (frameOf p) = false := h
    rcases h with h | h <;> simp [h]

/-- The `AIRPOS` fields (43_extended_squitter.md R223, 30_encoding.md R92). -/
theorem airPosFields_frameOf :
    ((airPosFields (frameOf p)).oddEvenFlag = true ↔ byteNat p 6 / 4 % 2 = 1) ∧
    ((airPosFields (frameOf p)).utcSyncFlag = true ↔ byteNat p 6 / 8 % 2 = 1) ∧
    ((airPosFields (frameOf p)).ac12Q = true ↔ byteNat p 5 % 2 = 1) ∧ (airPosFields (frameOf p)).ac12Unit = .feet ∧
    ((airPosFields (frameOf p)).ac12Q = true → (airPosFields (frameOf p)).ac12Altitude =
      some ((25 : Int) * ((byteNat p 5 / 2 * 16 + byteNat p 6 / 16 : Nat) : Int) - (1000 : Int))) ∧
    ((airPosFields (frameOf p)).ac12Q = false → (airPosFields (frameOf p)).ac12Altitude = none) ∧
    (airPosFields (frameOf p)).rawLatitude.toNat =
      (byteNat p 6 % 4) * 32768 + byteNat p 7 * 128 + byteNat p 8 / 2 ∧
    (airPosFields (frameOf p)).rawLongitude.toNat = (byteNat p 8 % 2) * 65536 + byteNat p 9 * 256 + byteNat p 10 := by
  have hbyte (i : Nat) (hi : i < 14) := byte_frameOf_toNat p hi
  have hn := ac12N_toNat (frameOf p)
  have hlat := rawLatitude_toNat (frameOf p)
  have hlon := rawLongitude_toNat (frameOf p)
  have hq := bit_iff ((frameOf p).byte 5) 0
  rw [hbyte 5 (by decide), hbyte 6 (by decide)] at hn
  rw [hbyte 6 (by decide), hbyte 7 (by decide), hbyte 8 (by decide)] at hlat
  rw [hbyte 8 (by decide), hbyte 9 (by decide), hbyte 10 (by decide)] at hlon
  rw [hbyte 5 (by decide), Nat.pow_zero, Nat.div_one] at hq
  refine ⟨?_, ?_, hq, rfl, fun h => ?_, fun h => ?_, hlat, hlon⟩
  · rw [← hbyte 6 (by decide)]
    exact bit_iff ((frameOf p).byte 6) 2
  · rw [← hbyte 6 (by decide)]
    exact bit_iff ((frameOf p).byte 6) 3
  · rw [← hn]
    exact if_pos h
  · exact if_neg (Bool.eq_false_iff.1 h)

/-- The `VEL_HDG` fields (43_extended_squitter.md R227). -/
theorem velHdgFields_frameOf :
    ((velHdgFields (frameOf p)).headingValid = true ↔ byteNat p 5 / 4 % 2 = 1) ∧
    (velHdgFields (frameOf p)).headingRaw.toNat = (byteNat p 5 % 4) * 32 + byteNat p 6 / 8 ∧
    (velHdgFields (frameOf p)).headingX16.toNat = 45 * (velHdgFields (frameOf p)).headingRaw.toNat := by
  have hraw := headingRaw_toNat (frameOf p)
  have hlt := (headingRaw (frameOf p)).isLt
  rw [byte_frameOf_toNat p (by decide), byte_frameOf_toNat p (by decide)] at hraw
  refine ⟨?_, hraw, ?_⟩
  · rw [← byte_frameOf_toNat p (by decide)]
    exact bit_iff ((frameOf p).byte 5) 2
  · exact (BitVec.toNat_ofNat ..).trans (Nat.mod_eq_of_lt (by omega))

/-- The `VEL_GS` fields, at a layout inside bytes 5 to 9 (43_extended_squitter.md R224, R225, R226). -/
theorem velGsOver_frameOf {P : Parameters} (hP : Admitted P) :
    let f := velGsOver P.velLayout P.dirNeg (frameOf p)
    (f.ewDir = true ↔ esBits p P.velLayout.ewDir 1 = 1) ∧ f.ewSpeed.toNat = esBits p P.velLayout.ewSpeed 10 ∧
    (f.nsDir = true ↔ esBits p P.velLayout.nsDir 1 = 1) ∧ f.nsSpeed.toNat = esBits p P.velLayout.nsSpeed 10 ∧
    (f.vrSource = true ↔ esBits p P.velLayout.vrSource 1 = 1) ∧
    (f.vrSign = true ↔ esBits p P.velLayout.vrSign 1 = 1) ∧
    f.vrMagnitude.toNat = esBits p P.velLayout.vrMagnitude 9 ∧
    f.groundSpeed.toNat ^ 2 ≤ f.nsSpeed.toNat ^ 2 + f.ewSpeed.toNat ^ 2 ∧
    f.nsSpeed.toNat ^ 2 + f.ewSpeed.toNat ^ 2 < (f.groundSpeed.toNat + 1) ^ 2 ∧
    f.heading = headingOf P.dirNeg f.ewDir f.ewSpeed f.nsDir f.nsSpeed := by
  have hlayout := hP.layout
  simp only [List.mem_cons, List.not_mem_nil, or_false, forall_eq_or_imp, forall_eq] at hlayout
  obtain ⟨⟨l1, h1⟩, ⟨l2, h2⟩, ⟨l3, h3⟩, ⟨l4, h4⟩, ⟨l5, h5⟩, ⟨l6, h6⟩, ⟨l7, h7⟩⟩ := hlayout
  have bit {j : Nat} (hlo : 40 ≤ j) (hhi : j + 1 ≤ 80) := messageBit_iff_esBits p hlo (by omega : j + 1 ≤ 88)
  have field {lo width : Nat} (hlo : 40 ≤ lo) (hhi : lo + width ≤ 80) :=
    messageField_toNat_eq_esBits p hlo (by omega : lo + width ≤ 88)
  have hspeed := groundSpeed_spec (messageField (frameOf p) P.velLayout.ewSpeed 10)
    (messageField (frameOf p) P.velLayout.nsSpeed 10)
  exact ⟨bit l1 h1, field l2 h2, bit l3 h3, field l4 h4, bit l5 h5, bit l6 h6, field l7 h7, hspeed.1, hspeed.2, rfl⟩

/-- The `VEL_GS` fields at the default layout, by arithmetic on the bytes (30_encoding.md R93). -/
theorem velGsOver_frameOf_default :
    let f := velGsOver Config.parameters.velLayout Config.parameters.dirNeg (frameOf p)
    (f.ewDir = true ↔ byteNat p 5 / 4 % 2 = 1) ∧ f.ewSpeed.toNat = (byteNat p 5 % 4) * 256 + byteNat p 6 ∧
    (f.nsDir = true ↔ byteNat p 7 / 128 = 1) ∧ f.nsSpeed.toNat = (byteNat p 7 % 128) * 8 + byteNat p 8 / 32 ∧
    (f.vrSource = true ↔ byteNat p 8 / 16 % 2 = 1) ∧ (f.vrSign = true ↔ byteNat p 8 / 8 % 2 = 1) ∧
    f.vrMagnitude.toNat = (byteNat p 8 % 8) * 64 + byteNat p 9 / 4 ∧
    f.groundSpeed.toNat ^ 2 ≤ f.nsSpeed.toNat ^ 2 + f.ewSpeed.toNat ^ 2 ∧
    f.nsSpeed.toNat ^ 2 + f.ewSpeed.toNat ^ 2 < (f.groundSpeed.toNat + 1) ^ 2 ∧
    f.heading = headingOf Config.dirNeg f.ewDir f.ewSpeed f.nsDir f.nsSpeed := by
  have hlt (i : Nat) : byteNat p i < 256 := (p.getD i 0).isLt
  have h6 := hlt 6
  have h7 := hlt 7
  have h8 := hlt 8
  have h9 := hlt 9
  have h10 := hlt 10
  obtain ⟨hewDir, hew, hnsDir, hns, hsource, hsign, hmag, hspeed⟩ :=
    velGsOver_frameOf p (P := Config.parameters) (by constructor <;> decide)
  refine ⟨hewDir.trans ?_, hew.trans ?_, hnsDir.trans ?_, hns.trans ?_, hsource.trans ?_, hsign.trans ?_,
    hmag.trans ?_, hspeed⟩
  all_goals
    simp only [esBits, esNumber, Config.parameters, Config.velLayout]
    omega

end Sys2Proof.Machine

namespace Sys2Proof.Proofs

open Sys2Proof Sys2Proof.Machine

/-- Settles O17: each of the 25 classes runs with no group. -/
theorem envelopeOnlyFormatsHaveNoGroup : Obligations.EnvelopeOnlyFormatsHaveNoGroup := by
  unfold Obligations.EnvelopeOnlyFormatsHaveNoGroup
  intro c hc p hwf s
  obtain ⟨hexec, henv⟩ := (runsWith_of_mem_envelopeOnlyClasses hc).answers Config.parameters hwf s
  exact ⟨_, _, (exec_eq_execOver _ s).trans hexec, henv, rfl, rfl, rfl, rfl⟩

/-- Settles O19: the row of each class fixes its format, which with the payload's length decides the groups. -/
theorem surveillanceHasFlightStatus : Obligations.SurveillanceHasFlightStatus := by
  unfold Obligations.SurveillanceHasFlightStatus
  intro c hc p hwf s
  obtain ⟨df, hrow, hfs, hca, hes, hformat⟩ : ∃ df, RowFixesFormat (c.1 p) p df ∧ df ∈ [4, 5, 20, 21] ∧ df ≠ 11 ∧
      df ∉ [17, 18] ∧ formatOf (BitVec.ofNat 5 df) = c.2 := by
    fin_cases hc <;> exact ⟨_, ⟨_, rfl, by decide, rfl⟩, by decide, by decide, by decide, by decide⟩
  obtain ⟨hdf, hbyte, hexec, henv⟩ := hrow.answers Config.parameters hwf s
  rw [hformat] at hexec henv
  rw [← hdf] at hfs hca hes
  refine ⟨_, _, (exec_eq_execOver _ s).trans hexec, henv, groupsOver_ca_eq_none hca, groupsOver_es_eq_none hes,
    fun h => groupsOver_ac13_eq_none ?_, fun hshort => groupsOver_fs_eq_none fun _ => hshort,
    fun hlong => ⟨_, groupsOver_fs_eq_some ((groupsOver_fs_isSome ..).2 ⟨hfs, hlong⟩), ?_, ?_, ?_⟩⟩
  · rw [hbyte, ← hdf] at h
    intro hac13
    rcases h with h | h <;> simp [h] at hac13
  · rw [fsFields, flightStatus_toNat, byte_frameOf_toNat p (by decide)]
  · rw [fsFields, downlinkRequest_toNat, byte_frameOf_toNat p (by decide)]
  · rw [fsFields, utilityMessage_toNat, byte_frameOf_toNat p (by decide), byte_frameOf_toNat p (by decide)]

/-- Settles O20: the row of each class fixes its format, which with the payload's length decides the groups; the altitude is
the one of `ac13Fields`. -/
theorem altitudeRepliesHaveAltitude : Obligations.AltitudeRepliesHaveAltitude := by
  unfold Obligations.AltitudeRepliesHaveAltitude
  intro c hc p hwf s
  obtain ⟨df, hrow, hac13, hca, hes, hformat⟩ : ∃ df, RowFixesFormat (c.1 p) p df ∧ df ∈ [0, 4, 16, 20] ∧ df ≠ 11 ∧
      df ∉ [17, 18] ∧ formatOf (BitVec.ofNat 5 df) = c.2 := by
    fin_cases hc <;> exact ⟨_, ⟨_, rfl, by decide, rfl⟩, by decide, by decide, by decide, by decide⟩
  obtain ⟨hdf, hbyte, hexec, henv⟩ := hrow.answers Config.parameters hwf s
  rw [hformat] at hexec henv
  rw [← hdf] at hac13 hca hes
  refine ⟨_, _, (exec_eq_execOver _ s).trans hexec, henv, groupsOver_ca_eq_none hca, groupsOver_es_eq_none hes,
    fun h => groupsOver_fs_eq_none ?_, fun hshort => groupsOver_ac13_eq_none fun _ => hshort,
    fun hlong => ⟨_, groupsOver_ac13_eq_some ((groupsOver_ac13_isSome ..).2 ⟨hac13, hlong⟩), ac13Fields_frameOf p⟩⟩
  rw [hbyte, ← hdf] at h
  intro hfs
  rcases h with h | h <;> simp [h] at hfs

/-- Settles O21: each of the eight classes runs with the callsign over `CH`. -/
theorem identificationGivesTheCallsign : Obligations.IdentificationGivesTheCallsign := by
  unfold Obligations.IdentificationGivesTheCallsign
  intro c hc p hwf s
  obtain ⟨hexec, henv⟩ := (runsWith_of_mem_identClasses hc).answers Config.parameters hwf s
  exact ⟨_, _, _, _, (exec_eq_execOver _ s).trans hexec, henv, rfl, rfl, rfl, rfl, esWith_frameOf_metype _ p,
    esWith_frameOf_mesub _ p, rfl, fun k hk => callsignOver_getElem? rfl p hk⟩

/-- Settles O22: each of the twenty classes runs with the `AIRPOS` fields. -/
theorem airbornePositionGivesItsFields : Obligations.AirbornePositionGivesItsFields := by
  unfold Obligations.AirbornePositionGivesItsFields
  intro c hc p hwf s
  obtain ⟨hexec, henv⟩ := (runsWith_of_mem_airposClasses hc).answers Config.parameters hwf s
  exact ⟨_, _, _, _, (exec_eq_execOver _ s).trans hexec, henv, rfl, rfl, rfl, rfl, esWith_frameOf_metype _ p,
    esWith_frameOf_mesub _ p, rfl, airPosFields_frameOf p⟩

/-- Settles O23: each of the four classes runs with the `VEL_GS` fields at the default layout. -/
theorem groundVelocityGivesItsFields : Obligations.GroundVelocityGivesItsFields := by
  unfold Obligations.GroundVelocityGivesItsFields
  intro c hc p hwf s
  obtain ⟨hexec, henv⟩ := (runsWith_of_mem_velGsClasses hc).answers Config.parameters hwf s
  exact ⟨_, _, _, _, (exec_eq_execOver _ s).trans hexec, henv, rfl, rfl, rfl, rfl, esWith_frameOf_metype _ p,
    esWith_frameOf_mesub _ p, rfl, velGsOver_frameOf_default p⟩

/-- Settles O24: each of the four classes runs with the `VEL_HDG` fields. -/
theorem headingVelocityGivesItsFields : Obligations.HeadingVelocityGivesItsFields := by
  unfold Obligations.HeadingVelocityGivesItsFields
  intro c hc p hwf s
  obtain ⟨hexec, henv⟩ := (runsWith_of_mem_velHdgClasses hc).answers Config.parameters hwf s
  exact ⟨_, _, _, _, (exec_eq_execOver _ s).trans hexec, henv, rfl, rfl, rfl, rfl, esWith_frameOf_metype _ p,
    esWith_frameOf_mesub _ p, rfl, velHdgFields_frameOf p⟩

/-- Settles O52: each of the eight classes runs with the callsign over the given set. -/
theorem callsignOverAnyCharacterSet : Obligations.CallsignOverAnyCharacterSet := by
  unfold Obligations.CallsignOverAnyCharacterSet
  intro P hset c hc p hwf w s
  obtain ⟨hexec, henv⟩ := (runsWith_of_mem_identClasses hc).answers P hwf s
  exact ⟨_, _, _, _, hexec, henv, rfl, rfl, rfl, rfl, rfl, fun k hk => callsignOver_getElem? hset p hk⟩

/-- Settles O53: each of the four classes runs with the `VEL_GS` fields at the given layout, whose fields lie in bytes 5
to 9. -/
theorem velocityOverAnyLayout : Obligations.VelocityOverAnyLayout := by
  unfold Obligations.VelocityOverAnyLayout
  intro P hP c hc p hwf w s
  obtain ⟨hexec, henv⟩ := (runsWith_of_mem_velGsClasses hc).answers P hwf s
  exact ⟨_, _, _, _, hexec, henv, rfl, rfl, rfl, rfl, rfl, velGsOver_frameOf p hP⟩

end Sys2Proof.Proofs

/-! A DECODE of a line that carries a frame, over any parameters and at any counter width (44_commands.md R251), and the laws
of 41_crc.md section 3: linearity, the appended checksum, the altered checksum. -/

namespace Sys2Proof.Machine

/-- The whole flow of DECODE on a line that carries a frame leaves the state after that frame (44_commands.md R251). -/
theorem execOver_decodeFlow_loaded {w : Nat} (P : Parameters) {line : Line} {p : Payload}
    (hv : validate line = .loaded p) (s : State w) :
    execOver P (.decode line) s = .next (afterFrame s p
      (envelope P (formatOf (downlinkFormat (frameOf p))) (frameOf p) (BitVec.ofNat 4 p.length))
      (groupsOver P (frameOf p) p.length)) := by
  obtain ⟨-, h14, -⟩ := validate_loaded hv
  exact (execDecodeOver_loaded hv P s).trans (acceptFrame_eq _ _ _ _ _ h14)

/-- The flow of DECODE and the frame's class have one meaning, over any parameters. -/
theorem execOver_classify_eq_decodeFlow {w : Nat} (P : Parameters) {line : Line} {p : Payload}
    (hv : validate line = .loaded p) (s : State w) :
    execOver P (classify p) s = execOver P (.decode line) s := by
  obtain ⟨-, h14, -⟩ := validate_loaded hv
  exact (execOver_classify P h14 s).trans (execDecodeOver_loaded hv P s).symm

/-- The framing of a loaded payload, by arithmetic on its first byte (42_dispatch_common.md R160, R161). -/
theorem formatOf_frameOf_eq_long112_iff (p : Payload) :
    formatOf (downlinkFormat (frameOf p)) = .long112 ↔ byteNat p 0 / 8 ∈ [16, 17, 19, 20, 21] := by
  rw [formatOf_eq_long112_iff, downlinkFormat_toNat, byte_frameOf_toNat p (by decide)]

/-! ## The laws of the checksum -/

/-- A message bit's term is linear in the frame. -/
theorem crcTerm_xor (T : List Crc24) (offset : Nat) (X Y : FrameBuf) {j : Nat} (h : j < 112) :
    crcTerm T offset (X.zipWith (· ^^^ ·) Y) j = crcTerm T offset X j ^^^ crcTerm T offset Y j := by
  unfold crcTerm
  rw [messageBit_xor X Y h]
  cases messageBit X j <;> cases messageBit Y j <;> simp

/-- The loop over a run of message bits is linear in the frame. -/
theorem crcFold_xor (T : List Crc24) (offset : Nat) (X Y : FrameBuf) {l : List Nat} (h : ∀ j ∈ l, j < 112) :
    l.foldl (crcTurn T offset (X.zipWith (· ^^^ ·) Y)) 0 =
      l.foldl (crcTurn T offset X) 0 ^^^ l.foldl (crcTurn T offset Y) 0 := by
  induction l with
  | nil => simp
  | cons j l ih =>
    obtain ⟨hj, hl⟩ := List.forall_mem_cons.1 h
    simp only [List.foldl_cons, crcTurn_eq]
    rw [crcFold_start, crcFold_start T offset X, crcFold_start T offset Y, ih hl, crcTerm_xor T offset X Y hj]
    simp only [BitVec.ofNat_eq_ofNat, BitVec.zero_xor]
    ac_rfl

/-- Two frames that agree in the bytes before their checksum have one `crc_calc`, over a table that ends in zeros. -/
theorem crcOver_eq_of_lead_eq {T : List Crc24} (hT : ∀ k, 88 ≤ k → T.getD k 0 = 0) {fmt : FrameFormat}
    {A B : FrameBuf} (h : ∀ i, i < formatBytes fmt - 3 → A.byte i = B.byte i) : crcOver T fmt A = crcOver T fmt B := by
  rw [crcOver_eq_lead hT, crcOver_eq_lead hT]
  refine crcFold_congr (fun j hj => ?_) 0
  have hj8 : j / 8 < formatBytes fmt - 3 := by
    have := formatBits_eq_bytes fmt
    have := List.mem_range.1 hj
    omega
  rw [crcTerm, crcTerm, messageBit, messageBit, h _ hj8]

/-- The default table ends in zeros (41_crc.md R140, R141). -/
theorem crcTable_getD_zero {k : Nat} (hk : 88 ≤ k) : Config.crcTable.getD k 0 = 0 := by
  obtain ⟨hlength, hzeros⟩ := Proofs.crcTableEndsInZeros
  rcases Nat.lt_or_ge k 112 with h | h
  · rw [List.getD_eq_getElem?_getD, hzeros k hk (by omega), Option.getD_some]
  · exact List.getD_eq_default _ _ (hlength ▸ h)

/-- `crc_calc` over the default table reads the bytes before the checksum alone. -/
theorem crcCalc_eq_of_lead_eq {fmt : FrameFormat} {A B : FrameBuf}
    (h : ∀ i, i < formatBytes fmt - 3 → A.byte i = B.byte i) : crcCalc fmt A = crcCalc fmt B :=
  crcOver_eq_of_lead_eq (fun _ hk => crcTable_getD_zero hk) h

/-- The three bytes of a checksum make the checksum. -/
theorem checksumBytes_append (c : Crc24) : c.extractLsb' 16 8 ++ c.extractLsb' 8 8 ++ c.extractLsb' 0 8 = c := by
  ext i hi
  simp only [← BitVec.getLsbD_eq_getElem, BitVec.getLsbD_append]
  interval_cases i <;> simp

/-- The `crc_value` of leading bytes followed by a checksum is the checksum (41_crc.md R145). -/
theorem crcValue_append_checksum {fmt : FrameFormat} {lead : List Byte} (h : lead.length = formatBytes fmt - 3)
    (c : Crc24) : crcValue fmt (frameOf (lead ++ checksumBytes c)) = c := by
  have hge := formatBytes_ge fmt
  have hle := formatBytes_le fmt
  have hbyte (k : Nat) (hk : k < 3) :
      (frameOf (lead ++ checksumBytes c)).byte (formatBytes fmt - 3 + k) = (checksumBytes c).getD k 0 := by
    rw [byte_frameOf_lt _ (by omega), ← h, List.getD_append_right _ _ _ _ (by omega), Nat.add_sub_cancel_left]
  rw [crcValue, show formatBytes fmt - 3 = formatBytes fmt - 3 + 0 by rfl,
    show formatBytes fmt - 2 = formatBytes fmt - 3 + 1 by omega, show formatBytes fmt - 1 = formatBytes fmt - 3 + 2 by omega,
    hbyte 0 (by decide), hbyte 1 (by decide), hbyte 2 (by decide)]
  exact checksumBytes_append c

/-- Appended bytes leave the leading bytes of the frame as they are. -/
theorem byte_frameOf_append {lead tail : List Byte} {i : Nat} (h : i < lead.length) :
    (frameOf (lead ++ tail)).byte i = (frameOf lead).byte i := by
  rw [byte_frameOf, byte_frameOf, List.getD_append _ _ _ _ h]

end Sys2Proof.Machine

namespace Sys2Proof.Proofs

open Sys2Proof Sys2Proof.Machine

/-- Settles O42: both meanings are the accepted frame with the framing and the groups that its format selects. -/
theorem decodeRunsItsFrameClass : Obligations.DecodeRunsItsFrameClass := by
  unfold Obligations.DecodeRunsItsFrameClass
  intro line p hv s
  rw [exec_eq_execOver, exec_eq_execOver, execOver_classify_eq_decodeFlow Config.parameters hv]

/-- Settles O43: the flow of DECODE leaves the state after the frame, whose envelope has the arithmetic of its bytes. -/
theorem decodeOfAFrameCompletes : Obligations.DecodeOfAFrameCompletes := by
  unfold Obligations.DecodeOfAFrameCompletes
  intro line p hv s
  obtain ⟨-, h14, -⟩ := validate_loaded hv
  exact ⟨_, _, (exec_eq_execOver _ s).trans (execOver_decodeFlow_loaded Config.parameters hv s),
    envelope_envelopeOver Config.parameters _ h14, formatOf_frameOf_eq_long112_iff p⟩

/-- Settles O51, as O43 and O42, over the given parameters. -/
theorem framesDecodeOverAnyConstants : Obligations.FramesDecodeOverAnyConstants := by
  unfold Obligations.FramesDecodeOverAnyConstants
  intro P line p hv w s
  obtain ⟨-, h14, -⟩ := validate_loaded hv
  exact ⟨_, _, execOver_decodeFlow_loaded P hv s, execOver_classify_eq_decodeFlow P hv s, envelope_envelopeOver P _ h14,
    formatOf_frameOf_eq_long112_iff p⟩

/-- Settles O33: the checksum is the loop over the framed bits, each of whose terms is linear. -/
theorem crcIsLinear : Obligations.CrcIsLinear := by
  unfold Obligations.CrcIsLinear
  intro T fmt X Y
  exact crcFold_xor T (tableOffset fmt) X Y fun j hj => (List.mem_range.1 hj).trans_le (formatBits_le fmt)

/-- Settles O34: the appended bytes are the frame's `crc_value`, and `crc_calc` reads the leading bytes alone. -/
theorem appendedChecksumVerifies : Obligations.AppendedChecksumVerifies := by
  unfold Obligations.AppendedChecksumVerifies
  intro fmt lead line hlead hfmt hv s
  have hbytes (i : Nat) (hi : i < formatBytes fmt - 3) :
      (frameOf (lead ++ checksumBytes (crcCalc fmt (frameOf lead)))).byte i = (frameOf lead).byte i :=
    byte_frameOf_append (hlead ▸ hi)
  have hformat : formatOf (downlinkFormat (frameOf (lead ++ checksumBytes (crcCalc fmt (frameOf lead))))) = fmt := by
    rw [downlinkFormat, hbytes 0 (by cases fmt <;> decide)]
    exact hfmt
  have hexec := (exec_eq_execOver _ s).trans (execOver_decode_loaded Config.parameters hv s)
  rw [hformat] at hexec
  have hvalid : (envelope Config.parameters fmt (frameOf (lead ++ checksumBytes (crcCalc fmt (frameOf lead))))
      (BitVec.ofNat 4 (lead ++ checksumBytes (crcCalc fmt (frameOf lead))).length)).crcValid = true := by
    rw [envelope_crcValid, decide_eq_true_iff]
    exact (crcValue_append_checksum hlead _).trans (crcCalc_eq_of_lead_eq hbytes).symm
  exact ⟨_, _, _, hexec, afterFrame_res .., hvalid, by rw [afterFrame_stat, hvalid, if_pos rfl]⟩

/-- Settles O35: `crc_calc` reads the leading bytes alone, so that it is the first frame's `crc_value`, which the second's is
not. -/
theorem alteredChecksumIsSeen : Obligations.AlteredChecksumIsSeen := by
  unfold Obligations.AlteredChecksumIsSeen
  intro fmt X Y d hd hvalid hlead hvalue
  have hcalc : crcCalc fmt Y = crcCalc fmt X := crcCalc_eq_of_lead_eq hlead
  have hne : crcValue fmt Y ≠ crcValue fmt X := by
    rw [hvalue]
    simpa using hd
  refine ⟨hcalc, hne, ?_⟩
  have hX : crcValue fmt X = crcCalc fmt X := beq_iff_eq.1 hvalid
  exact beq_eq_false_iff_ne.2 fun hY => hne (hY.trans (hcalc.trans hX.symm))

/-- Settles O31: the recurrence, checked at each of the table's entries. -/
theorem crcTableFollowsThePolynomial : Obligations.CrcTableFollowsThePolynomial := by
  unfold Obligations.CrcTableFollowsThePolynomial
  exact ⟨rfl, by decide⟩

end Sys2Proof.Proofs

/-! The Frame Validator's test of the payload's characters (40_frame_validator.md, decision D5), the altitudes' range
(42_dispatch_common.md R165, 43_extended_squitter.md R223), and the heading of R226 as the floor of the real bearing. -/

namespace Sys2Proof

/-- Characters pair up to bytes exactly when their count is even and each is a hex digit. -/
theorem hexPairs_eq_none_iff (pay : List Byte) :
    hexPairs pay = none ↔ pay.length % 2 = 1 ∨ ∃ c ∈ pay, isHexDigit c = false := by
  rw [← not_iff_not, ← ne_eq, Option.ne_none_iff_exists']
  push Not
  constructor
  · rintro ⟨p, hp⟩
    obtain ⟨hlen, hdigits⟩ := hexPairs_some hp
    exact ⟨by omega, by simpa using hdigits⟩
  · rintro ⟨hlen, hdigits⟩
    exact Option.isSome_iff_exists.1 (hexPairs_isSome (by omega) (by simpa using hdigits))

end Sys2Proof

namespace Sys2Proof.Machine

/-! ## Altitudes -/

/-- An altitude is a multiple of 25 feet from -1000 to 50175 (42_dispatch_common.md R165). -/
theorem altitudeFeet_range (n : BitVec 11) :
    -1000 ≤ altitudeFeet n ∧ altitudeFeet n ≤ 50175 ∧ altitudeFeet n % 25 = 0 := by
  have := n.isLt
  unfold altitudeFeet Config.altStep Config.altBias
  omega

/-! ## The bearing -/

/-- The bearing of a vector in degrees clockwise from north, from 0 to 360 (43_extended_squitter.md R226). -/
noncomputable def bearing (v : Vec) : ℝ :=
  let h : ℝ := Complex.arg ⟨v.s, v.e⟩ * 180 / Real.pi
  if h < 0 then h + 360 else h

/-- The bearing in radians is the vector's argument, up to one turn. -/
theorem bearing_radians (v : Vec) : bearing v * (Real.pi / 180) = Complex.arg ⟨v.s, v.e⟩ ∨
    bearing v * (Real.pi / 180) = Complex.arg ⟨v.s, v.e⟩ + 2 * Real.pi := by
  have hpi := Real.pi_ne_zero
  unfold bearing
  dsimp only
  split
  · right
    field_simp
    ring
  · left
    field_simp

theorem bearing_range (v : Vec) : 0 ≤ bearing v ∧ bearing v < 360 := by
  have hpi := Real.pi_pos
  have hlo := Complex.neg_pi_lt_arg ⟨v.s, v.e⟩
  have hhi := Complex.arg_le_pi ⟨v.s, v.e⟩
  have hlo' : -180 < Complex.arg ⟨v.s, v.e⟩ * 180 / Real.pi := by
    rw [lt_div_iff₀ hpi]
    linarith
  have hhi' : Complex.arg ⟨v.s, v.e⟩ * 180 / Real.pi ≤ 180 := by
    rw [div_le_iff₀ hpi]
    linarith
  unfold bearing
  dsimp only
  split <;> constructor <;> linarith

/-- A vector is its length along its bearing. -/
theorem vec_polar (v : Vec) : (v.e : ℝ) = ‖(⟨v.s, v.e⟩ : ℂ)‖ * Real.sin (bearing v * (Real.pi / 180)) ∧
    (v.s : ℝ) = ‖(⟨v.s, v.e⟩ : ℂ)‖ * Real.cos (bearing v * (Real.pi / 180)) := by
  have hsin := Complex.norm_mul_sin_arg ⟨v.s, v.e⟩
  have hcos := Complex.norm_mul_cos_arg ⟨v.s, v.e⟩
  rcases bearing_radians v with h | h
  · rw [h]
    exact ⟨hsin.symm, hcos.symm⟩
  · rw [h, Real.sin_add_two_pi, Real.cos_add_two_pi]
    exact ⟨hsin.symm, hcos.symm⟩

/-- A ray's test has the sign of the sine of the angle from the ray to the vector. -/
theorem cross_ray_nonneg_iff_sin {v : Vec} (he : |v.e| ≤ 1023) (hs : |v.s| ≤ 1023) (hv : v.e ≠ 0 ∨ v.s ≠ 0) (k : ℕ) :
    0 ≤ cross (ray k) v ↔ 0 ≤ Real.sin ((bearing v - k) * (Real.pi / 180)) := by
  have hlength : 0 < ‖(⟨v.s, v.e⟩ : ℂ)‖ := by
    rw [norm_pos_iff, ne_eq, Complex.ext_iff]
    rintro ⟨h1, h2⟩
    exact hv.elim (· (Int.cast_eq_zero.1 h2)) (· (Int.cast_eq_zero.1 h1))
  obtain ⟨hsin, hcos⟩ := vec_polar v
  rw [cross_ray_nonneg_iff k v he hs]
  generalize ‖(⟨v.s, v.e⟩ : ℂ)‖ = length at *
  have hproduct : (v.e : ℝ) * Real.cos (k * (Real.pi / 180)) - v.s * Real.sin (k * (Real.pi / 180)) =
      length * Real.sin ((bearing v - k) * (Real.pi / 180)) := by
    rw [hsin, hcos, sub_mul, Real.sin_sub]
    ring
  rw [hproduct, mul_nonneg_iff_of_pos_left hlength]

/-- Of the angles less than a turn from a ray, those that pass both the ray's test and the next ray's test are the ones of
the sector of one degree. -/
theorem sector_iff {d : ℝ} (hlo : -359 ≤ d) (hhi : d < 360) :
    (0 ≤ Real.sin (d * (Real.pi / 180)) ∧ Real.sin ((d - 1) * (Real.pi / 180)) < 0) ↔ 0 ≤ d ∧ d < 1 := by
  have hpi := Real.pi_pos
  have nonneg {x : ℝ} (h0 : 0 ≤ x) (h180 : x ≤ 180) : 0 ≤ Real.sin (x * (Real.pi / 180)) :=
    Real.sin_nonneg_of_nonneg_of_le_pi (by positivity) (by nlinarith)
  have neg {x : ℝ} (h0 : x < 0) (h180 : -180 < x) : Real.sin (x * (Real.pi / 180)) < 0 :=
    Real.sin_neg_of_neg_of_neg_pi_lt (by nlinarith) (by nlinarith)
  have turn (x : ℝ) : Real.sin ((x + 360) * (Real.pi / 180)) = Real.sin (x * (Real.pi / 180)) := by
    rw [show (x + 360) * (Real.pi / 180) = x * (Real.pi / 180) + 2 * Real.pi by ring, Real.sin_add_two_pi]
  constructor
  · rintro ⟨h1, h2⟩
    constructor
    · by_contra hneg
      rcases lt_or_ge (-180) d with h | h
      · exact absurd (neg (not_le.1 hneg) h) (not_lt.2 h1)
      · rw [← turn] at h2
        exact absurd (nonneg (by linarith) (by linarith)) (not_le.2 h2)
    · by_contra hbig
      rcases le_or_gt d 181 with h | h
      · exact absurd (nonneg (by linarith) (by linarith)) (not_le.2 h2)
      · rw [show d = d - 360 + 360 by ring, turn] at h1
        exact absurd (neg (by linarith) (by linarith)) (not_lt.2 h1)
  · rintro ⟨h1, h2⟩
    exact ⟨nonneg h1 (by linarith), neg (by linarith) (by linarith)⟩

/-! ## The heading -/

/-- A sector holds a vector exactly when its bearing is from that whole degree to the next. -/
theorem inSector_iff {v : Vec} (he : |v.e| ≤ 1023) (hs : |v.s| ≤ 1023) (hv : v.e ≠ 0 ∨ v.s ≠ 0) {k : ℕ} (hk : k < 360) :
    inSector k v = true ↔ (k : ℝ) ≤ bearing v ∧ bearing v < k + 1 := by
  obtain ⟨h0, h360⟩ := bearing_range v
  have hk' : (k : ℝ) ≤ 359 := by exact_mod_cast Nat.le_of_lt_succ hk
  have hk0 : (0 : ℝ) ≤ k := Nat.cast_nonneg k
  have hsector := sector_iff (d := bearing v - k) (by linarith) (by linarith)
  have hnext := cross_ray_nonneg_iff_sin he hs hv (k + 1)
  rw [Nat.cast_succ, ← sub_sub] at hnext
  rw [inSector, Bool.and_eq_true, decide_eq_true_iff, decide_eq_true_iff, ← not_le, hnext, not_le,
    cross_ray_nonneg_iff_sin he hs hv, hsector, sub_nonneg, sub_lt_iff_lt_add']

/-- The heading of a vector is the floor of its bearing (R226, decision D17). -/
theorem headingDegrees_eq_floor {v : Vec} (he : |v.e| ≤ 1023) (hs : |v.s| ≤ 1023) (hv : v.e ≠ 0 ∨ v.s ≠ 0) :
    (headingDegrees v : ℤ) = ⌊bearing v⌋ ∧ headingDegrees v < 360 := by
  obtain ⟨h0, h360⟩ := bearing_range v
  obtain ⟨k, hk⟩ := Int.eq_ofNat_of_zero_le (Int.floor_nonneg.2 h0)
  have hfloor := Int.floor_eq_iff.1 hk
  rw [Int.cast_natCast] at hfloor
  have hlt : k < 360 := by
    have : (k : ℝ) < 360 := hfloor.1.trans_lt h360
    exact_mod_cast this
  have hfind : (List.range 360).find? (fun k => inSector k v) = some k := by
    rw [List.find?_range_eq_some]
    refine ⟨(inSector_iff he hs hv hlt).2 hfloor, List.mem_range.2 hlt, fun j hj => ?_⟩
    rw [Bool.not_eq_true', Bool.eq_false_iff, ne_eq, inSector_iff he hs hv (hj.trans hlt)]
    rintro ⟨-, h⟩
    have : (j : ℝ) + 1 ≤ k := by exact_mod_cast hj
    linarith
  have hheading : headingDegrees v = k := by rw [headingDegrees, hfind, Option.getD_some]
  rw [hheading, hk]
  exact ⟨rfl, hlt⟩

/-- A signed speed is at most 1023 either way, and 0 only when the speed is. -/
theorem signedSpeed_bounds (dirNeg dir : Bool) (speed : BitVec 10) :
    |signedSpeed dirNeg dir speed| ≤ 1023 ∧ (signedSpeed dirNeg dir speed = 0 → speed = 0) := by
  have hlt := speed.isLt
  have hzero : speed.toNat = 0 → speed = 0 := fun h => BitVec.eq_of_toNat_eq h
  rw [signedSpeed, abs_le]
  split
  · exact ⟨by omega, fun h => hzero (by omega)⟩
  · exact ⟨by omega, fun h => hzero (by omega)⟩

/-- The heading of speeds that are not both zero is the floor of their bearing. -/
theorem headingOf_toNat_eq_floor {dirNeg ewDir nsDir : Bool} {ew ns : BitVec 10} (h : ¬ (ew = 0 ∧ ns = 0)) :
    ((headingOf dirNeg ewDir ew nsDir ns).toNat : ℤ) =
      ⌊bearing ⟨signedSpeed dirNeg ewDir ew, signedSpeed dirNeg nsDir ns⟩⌋ := by
  obtain ⟨he, hew⟩ := signedSpeed_bounds dirNeg ewDir ew
  obtain ⟨hs, hns⟩ := signedSpeed_bounds dirNeg nsDir ns
  have hv : signedSpeed dirNeg ewDir ew ≠ 0 ∨ signedSpeed dirNeg nsDir ns ≠ 0 := by
    by_contra hc
    push Not at hc
    exact h ⟨hew hc.1, hns hc.2⟩
  obtain ⟨hfloor, hlt⟩ := headingDegrees_eq_floor
    (v := ⟨signedSpeed dirNeg ewDir ew, signedSpeed dirNeg nsDir ns⟩) he hs hv
  rw [headingOf, if_neg h, BitVec.toNat_ofNat, Nat.mod_eq_of_lt (hlt.trans (by decide)), hfloor]

/-- The heading of speeds along a vector is that vector's, whatever their length. -/
theorem headingOf_of_multiple {dirNeg ewDir nsDir : Bool} {ew ns : BitVec 10} (h : ¬ (ew = 0 ∧ ns = 0)) {v : Vec} {c : ℕ}
    (hc : 0 < c) (he : signedSpeed dirNeg ewDir ew = c * v.e) (hs : signedSpeed dirNeg nsDir ns = c * v.s) :
    headingOf dirNeg ewDir ew nsDir ns = BitVec.ofNat 9 (headingDegrees v) := by
  rw [headingOf, if_neg h, he, hs, headingDegrees_scale c hc]

end Sys2Proof.Machine

namespace Sys2Proof.Proofs

open Sys2Proof Sys2Proof.Machine

/-- Settles O14: past the tests of the count, the validator rejects what does not pair up. -/
theorem oddOrNonHexPayloadIsInvalid : Obligations.OddOrNonHexPayloadIsInvalid := by
  unfold Obligations.OddOrNonHexPayloadIsInvalid
  intro pay h2 h28
  have hverdict := validate_delimited pay
  rw [if_neg (by omega), if_neg (by omega)] at hverdict
  change validate (starChar :: pay ++ [semiChar]) = _ ↔ _
  rw [← hexPairs_eq_none_iff, hverdict]
  cases hp : hexPairs pay with
  | none => simp
  | some p =>
    obtain ⟨hlen, -⟩ := hexPairs_some hp
    rw [if_neg (by omega)]
    simp

/-- Settles O16: a character has a value exactly when it is a hex digit, and the value is the digit's. -/
theorem hexDigitsHaveTheirValues : Obligations.HexDigitsHaveTheirValues := by
  unfold Obligations.HexDigitsHaveTheirValues
  refine fun c => ⟨hexval_of_isHexDigit, fun h => ?_⟩
  rw [← Option.not_isSome_iff_eq_none, hexval_isSome, h]
  decide

/-- Settles O41, by running the decoder on each word. -/
theorem writtenWordsDecode : Obligations.WrittenWordsDecode := by
  unfold Obligations.WrittenWordsDecode
  decide

/-- Settles O28: a present altitude is the one of an 11-bit value, beside the flags that make it present. -/
theorem altitudesLieInTheirRange : Obligations.AltitudesLieInTheirRange := by
  unfold Obligations.AltitudesLieInTheirRange
  refine fun B => ⟨fun a ha => ?_, fun a ha => ?_⟩
  · obtain ⟨hflags, ha⟩ := Option.ite_none_right_eq_some.1 ha
    obtain rfl := Option.some.inj ha
    rw [Bool.and_eq_true, Bool.not_eq_true'] at hflags
    obtain ⟨hm, hq⟩ := hflags
    obtain ⟨hlo, hhi, hmultiple⟩ := altitudeFeet_range (ac13N B)
    exact ⟨hlo, hhi, hmultiple, hm, hq, by simp [ac13Fields, hm]⟩
  · obtain ⟨hq, ha⟩ := Option.ite_none_right_eq_some.1 ha
    obtain rfl := Option.some.inj ha
    obtain ⟨hlo, hhi, hmultiple⟩ := altitudeFeet_range (ac12N B)
    exact ⟨hlo, hhi, hmultiple, hq⟩

/-- Settles O26: the sector found is the one that holds the bearing. -/
theorem headingIsFloorOfBearing : Obligations.HeadingIsFloorOfBearing := by
  unfold Obligations.HeadingIsFloorOfBearing
  refine fun ewDir nsDir ew ns => ⟨fun h => if_pos h, fun h => ?_⟩
  have hcast (dir : Bool) (speed : BitVec 10) : ((signedSpeed Config.dirNeg dir speed : ℤ) : ℝ) =
      if dir then -(speed.toNat : ℝ) else speed.toNat := by
    cases dir <;> simp [signedSpeed, Config.dirNeg]
  rw [headingOf_toNat_eq_floor h]
  simp only [bearing, hcast]

/-- Settles O27: the speeds are a multiple of one of eight vectors, whose headings are those. -/
theorem headingExactAtMultiplesOf45 : Obligations.HeadingExactAtMultiplesOf45 := by
  unfold Obligations.HeadingExactAtMultiplesOf45
  intro v hv d
  have hpos : 0 < v.toNat := Nat.pos_of_ne_zero fun h => hv (BitVec.eq_of_toNat_eq h)
  have hzero (dir : Bool) : signedSpeed true dir 0 = v.toNat * 0 := by cases dir <;> rfl
  have hplus : signedSpeed true false v = v.toNat * 1 := (mul_one _).symm
  have hminus : signedSpeed true true v = v.toNat * -1 := (mul_neg_one _).symm
  have hew (ns : BitVec 10) : ¬ (v = 0 ∧ ns = 0) := fun h => hv h.1
  have hns (ew : BitVec 10) : ¬ (ew = 0 ∧ v = 0) := fun h => hv h.2
  -- The model evaluates the heading of each of the eight vectors.
  refine ⟨?_, ?_, ?_, ?_, ?_, ?_, ?_, ?_⟩
  · exact headingOf_of_multiple (v := ⟨0, 1⟩) (hns 0) hpos (hzero d) hplus
  · exact headingOf_of_multiple (v := ⟨1, 1⟩) (hns v) hpos hplus hplus
  · exact headingOf_of_multiple (v := ⟨1, 0⟩) (hew 0) hpos hplus (hzero d)
  · exact headingOf_of_multiple (v := ⟨1, -1⟩) (hns v) hpos hplus hminus
  · exact headingOf_of_multiple (v := ⟨0, -1⟩) (hns 0) hpos (hzero d) hminus
  · exact headingOf_of_multiple (v := ⟨-1, -1⟩) (hns v) hpos hminus hminus
  · exact headingOf_of_multiple (v := ⟨-1, 0⟩) (hew 0) hpos hminus (hzero d)
  · exact headingOf_of_multiple (v := ⟨-1, 1⟩) (hns v) hpos hminus hplus

end Sys2Proof.Proofs

/-! The named parameters of 00_scope.md R7 at any value: which fields the read-only constants reach (10_state.md R33), and the
counter width (R25, decision D10). -/

namespace Sys2Proof.Machine

/-! ## The read-only constants -/

/-- The sub-decoder's payload depends on the constants in the callsign and in the ground-speed fields alone
(43_extended_squitter.md R220). -/
theorem esPayload_constants (P Q : Parameters) (B : FrameBuf) : esPayload P B = esPayload Q B ∨
    (∃ cs cs', esPayload P B = .ident cs ∧ esPayload Q B = .ident cs') ∨
    (∃ f f', esPayload P B = .velGs f ∧ esPayload Q B = .velGs f') := by
  unfold esPayload
  dsimp only
  split_ifs
  · exact .inr (.inl ⟨_, _, rfl, rfl⟩)
  · exact .inl rfl
  · exact .inr (.inr ⟨_, _, rfl, rfl⟩)
  · exact .inl rfl
  · exact .inl rfl

/-- The ES group depends on the constants in those fields alone. -/
theorem groupsOver_es_constants (P Q : Parameters) (B : FrameBuf) (N : Nat) :
    (groupsOver P B N).es = (groupsOver Q B N).es ∨
    ∃ e e', (groupsOver P B N).es = some e ∧ (groupsOver Q B N).es = some e' ∧ e.metype = e'.metype ∧ e.mesub = e'.mesub ∧
      ((∃ cs cs', e.payload = .ident cs ∧ e'.payload = .ident cs') ∨
        (∃ f f', e.payload = .velGs f ∧ e'.payload = .velGs f')) := by
  unfold groupsOver
  dsimp only
  split_ifs
  · rcases esPayload_constants P Q B with h | h
    · exact .inl (by rw [h])
    · exact .inr ⟨_, _, rfl, rfl, rfl, rfl, h⟩
  · exact .inl rfl

/-- The envelope depends on the CRC constants alone. -/
theorem envelope_congr {P Q : Parameters} (h : P.crcTable = Q.crcTable) (fmt : FrameFormat) (B : FrameBuf) (n : BitVec 4) :
    envelope P fmt B n = envelope Q fmt B n := by
  simp only [envelope, h]

/-! ## The counter width -/

section Width

variable {w v : Nat}

/-- A counter has its value in a wider register. -/
theorem toNat_setWidth_of_le (hwv : w ≤ v) (c : Counter w) : (c.setWidth v).toNat = c.toNat := by
  rw [BitVec.toNat_setWidth, Nat.mod_eq_of_lt (c.isLt.trans_le (Nat.pow_le_pow_right (by decide) hwv))]

/-- A counter that is not full counts up the same in a wider register. -/
theorem setWidth_satInc (hwv : w ≤ v) {c : Counter w} (h : c.toNat < 2 ^ w - 1) :
    (satInc c).setWidth v = satInc (c.setWidth v) := by
  have hpow : 2 ^ w ≤ 2 ^ v := Nat.pow_le_pow_right (by decide) hwv
  apply BitVec.eq_of_toNat_eq
  rw [toNat_setWidth_of_le hwv, satInc_toNat, satInc_toNat, toNat_setWidth_of_le hwv]
  omega

/-- No counter is full (10_state.md R25). -/
def NoneFull (st : Stat w) : Prop :=
  st.framesSeen.toNat < 2 ^ w - 1 ∧ st.invalidFrames.toNat < 2 ^ w - 1 ∧ st.crcFailures.toNat < 2 ^ w - 1

/-- A response is delivered in any register alike. -/
theorem atWidth_respond (r : Response w) (s : State w) :
    State.atWidth v (respond r s) = respond (Response.atWidth v r) (State.atWidth v s) := by
  simp [State.atWidth, respond]

theorem atWidth_clearCounters (s : State w) :
    State.atWidth v (clearCounters s) = clearCounters (State.atWidth v s) := by
  simp [State.atWidth, clearCounters, Stat.atWidth]

theorem atWidth_afterReset (s : State w) : State.atWidth v (afterReset s) = afterReset (State.atWidth v s) := by
  simp [State.atWidth, afterReset, State.resetOver, Stat.atWidth]

/-- An accepted frame is counted the same in wider registers, while no counter is full. -/
theorem atWidth_afterFrame (hwv : w ≤ v) {s : State w} (h : NoneFull s.stat) (p : Payload) (env : Envelope) (g : Groups) :
    State.atWidth v (afterFrame s p env g) = afterFrame (State.atWidth v s) p env g := by
  obtain ⟨hseen, -, hfailures⟩ := h
  simp only [State.atWidth, afterFrame, Stat.atWidth, setWidth_satInc hwv hseen, ← setWidth_satInc hwv hfailures,
    apply_ite (BitVec.setWidth v), List.map_append, List.map_cons, List.map_nil, Option.map_some, Response.atWidth]

/-- A raised error is counted the same in wider registers, while no counter is full. -/
theorem atWidth_raiseError (hwv : w ≤ v) {s : State w} (h : NoneFull s.stat) (e : ValidationError) :
    State.atWidth v (raiseError e (countFrame s)) = raiseError e (countFrame (State.atWidth v s)) := by
  obtain ⟨hseen, hinvalid, -⟩ := h
  rw [raiseError, raiseError, atWidth_respond]
  simp only [State.atWidth, countInvalid, countFrame, Stat.atWidth, setWidth_satInc hwv hseen, setWidth_satInc hwv hinvalid,
    Response.atWidth]

/-- A block with wider counters takes the same step, provided no counter is full where the step is over a DECODE. -/
theorem stepOver_atWidth (P : Parameters) (hwv : w ≤ v) {s : State w}
    (hroom : ∀ c rest, s.moves = .command c :: rest → c.code = 0b01 → NoneFull s.stat) :
    ∃ t, stepOver P s = .next t ∧ stepOver P (State.atWidth v s) = .next (State.atWidth v t) := by
  cases hm : s.moves with
  | nil => exact ⟨s, stepOver_idle hm, stepOver_idle hm⟩
  | cons m rest =>
    have hm' : (State.atWidth v s).moves = m :: rest := hm
    cases m with
    | reset a => exact ⟨_, stepOver_reset hm, (stepOver_reset hm').trans (congrArg _ (atWidth_afterReset { s with moves := rest }).symm)⟩
    | command c =>
      rcases decode_cases c with ⟨-, hd⟩ | ⟨-, hd⟩ | ⟨-, hd⟩ | ⟨hc, p, hv, -⟩ | ⟨hc, e, hv, -⟩
      · exact ⟨_, (stepOver_command hm).trans (by rw [hd, execOver_nop]),
          (stepOver_command hm').trans (by rw [hd, execOver_nop, atWidth_respond]; rfl)⟩
      · exact ⟨_, (stepOver_command hm).trans (by rw [hd, execOver_statsRead]),
          (stepOver_command hm').trans (by rw [hd, execOver_statsRead, atWidth_respond]; rfl)⟩
      · exact ⟨_, (stepOver_command hm).trans (by rw [hd, execOver_statsReset]),
          (stepOver_command hm').trans (by rw [hd, execOver_statsReset, atWidth_respond, atWidth_clearCounters]; rfl)⟩
      · exact ⟨_, stepOver_decode_loaded hm hc hv, (stepOver_decode_loaded hm' hc hv).trans
          (congrArg _ (atWidth_afterFrame (s := { s with moves := rest }) hwv (hroom c rest hm hc) ..).symm)⟩
      · exact ⟨_, stepOver_decode_raised hm hc hv, (stepOver_decode_raised hm' hc hv).trans
          (congrArg _ (atWidth_raiseError (s := { s with moves := rest }) hwv (hroom c rest hm hc) e).symm)⟩

/-! ## Runs within the room of the counters -/

/-- The frames counted and the DECODEs still to come do not grow by a step. -/
theorem stepOver_seen_budget {P : Parameters} {s t : State w} (ht : stepOver P s = .next t) :
    t.stat.framesSeen.toNat + t.moves.countP isDecode ≤ s.stat.framesSeen.toNat + s.moves.countP isDecode := by
  rcases stepOver_cases ht with ⟨-, rfl⟩ | ⟨a, rest, hm, rfl⟩ | ⟨c, rest, hm, -⟩
  · exact le_rfl
  · rw [hm, afterReset_stat, afterReset_moves]
    simp [isDecode]
  · rw [hm, List.countP_cons]
    have hdecode : c.code = 0b01 → isDecode (.command c) = true := fun hc => by simp [isDecode, hc]
    rcases stepOver_command_cases P hm with
      ⟨-, hs⟩ | ⟨-, hs⟩ | ⟨-, hs⟩ | ⟨hc, p, -, hs⟩ | ⟨hc, e, -, hs⟩ <;>
      obtain rfl := Host.Outcome.next.inj (ht.symm.trans hs)
    · simp
    · simp
    · simp only [respond_stat, clearCounters_stat, respond_moves, clearCounters_moves, BitVec.ofNat_eq_ofNat,
        BitVec.toNat_ofNat, Nat.zero_mod]
      omega
    · have := satInc_toNat s.stat.framesSeen
      simp only [afterFrame_stat, afterFrame_moves, hdecode hc, if_true]
      omega
    · have := satInc_toNat s.stat.framesSeen
      simp only [raiseError_stat, raiseError_moves, countFrame_stat, countFrame_moves, hdecode hc, if_true]
      omega

/-- A state whose counters are ordered and have room for the DECODEs still to come. -/
def RoomForDecodes (s : State w) : Prop :=
  CountersOrdered s.stat ∧ s.stat.framesSeen.toNat + s.moves.countP isDecode < 2 ^ w

/-- Every step keeps the room. -/
theorem stepOver_keeps_roomForDecodes {P : Parameters} {s t : State w} (h : RoomForDecodes s)
    (ht : stepOver P s = .next t) : RoomForDecodes t :=
  ⟨stepOver_keeps_countersOrdered h.1 ht, (stepOver_seen_budget ht).trans_lt h.2⟩

/-- With room for the DECODEs still to come, no counter is full before one. -/
theorem noneFull_of_roomForDecodes {s : State w} (h : RoomForDecodes s) {c : CommandWord} {rest : List HostMove}
    (hm : s.moves = .command c :: rest) (hc : c.code = 0b01) : NoneFull s.stat := by
  obtain ⟨⟨hinvalid, hfailures, -⟩, hroom⟩ := h
  rw [hm, List.countP_cons, if_pos (by simp [isDecode, hc])] at hroom
  refine ⟨?_, ?_, ?_⟩ <;> omega

/-- The runs of the two blocks answer the same state while there is room. -/
theorem run_atWidth (P : Parameters) (hwv : w ≤ v) (k : Nat) : ∀ {s : State w}, RoomForDecodes s →
    ∃ t, (coreOver w P).run k s = .next t ∧ (coreOver v P).run k (State.atWidth v s) = .next (State.atWidth v t) := by
  induction k with
  | zero => exact fun {s} _ => ⟨s, rfl, rfl⟩
  | succ k ih =>
    intro s h
    obtain ⟨t, ht, ht'⟩ := stepOver_atWidth P hwv fun c rest hm hc => noneFull_of_roomForDecodes h hm hc
    obtain ⟨u, hu, hu'⟩ := ih (stepOver_keeps_roomForDecodes h ht)
    exact ⟨u, (run_succ (coreOver w P) ht).trans hu, (run_succ (coreOver v P) ht').trans hu'⟩

end Width

end Sys2Proof.Machine

namespace Sys2Proof.Proofs

open Sys2Proof Sys2Proof.Machine

/-- Settles O54, by the host's next move: only an accepted frame reads the constants, in its envelope's `crc_calc` and
`crc_valid` and in its ES group. -/
theorem constantsReachOnlyTheirFields : Obligations.ConstantsReachOnlyTheirFields := by
  unfold Obligations.ConstantsReachOnlyTheirFields
  intro P Q w s
  cases hm : s.moves with
  | nil => exact ⟨s, s, stepOver_idle hm, stepOver_idle hm, rfl, rfl, rfl, rfl, rfl, .inl rfl, fun _ => rfl, .inl rfl⟩
  | cons m rest =>
    cases m with
    | reset a =>
      exact ⟨_, _, stepOver_reset hm, stepOver_reset hm, rfl, rfl, rfl, rfl, rfl, .inl rfl, fun _ => rfl, .inl rfl⟩
    | command c =>
      rcases decode_cases c with ⟨-, hd⟩ | ⟨-, hd⟩ | ⟨-, hd⟩ | ⟨hc, p, hv, -⟩ | ⟨hc, e, hv, -⟩
      case inr.inr.inr.inl =>
        refine ⟨_, _, stepOver_decode_loaded hm hc hv, stepOver_decode_loaded hm hc hv, rfl, rfl, rfl, rfl, rfl,
          .inr ⟨_, _, rfl, rfl, rfl, rfl⟩, fun htable => ?_, .inr ⟨_, _, _, _, rfl, rfl, rfl, fun htable => ?_, rfl, rfl,
          rfl, groupsOver_es_constants P Q _ _⟩⟩
        · rw [afterFrame_stat, afterFrame_stat, envelope_congr htable]
        · exact envelope_congr htable ..
      case inr.inr.inr.inr =>
        exact ⟨_, _, stepOver_decode_raised hm hc hv, stepOver_decode_raised hm hc hv, rfl, rfl, rfl, rfl, rfl, .inl rfl,
          fun _ => rfl, .inl rfl⟩
      all_goals
        obtain ⟨t, ht⟩ : ∃ t, ∀ R, stepOver R s = .next t :=
          ⟨_, fun R => by rw [stepOver_command hm, hd]; rfl⟩
        exact ⟨t, t, ht P, ht Q, rfl, rfl, rfl, rfl, rfl, .inl rfl, fun _ => rfl, .inl rfl⟩

/-- Settles O55, by the step's cases on the command, at any width. -/
theorem countersFollowCommandsAtAnyWidth : Obligations.CountersFollowCommandsAtAnyWidth := by
  unfold Obligations.CountersFollowCommandsAtAnyWidth
  intro P w s
  constructor
  · intro c rest hm
    rcases stepOver_command_cases P hm with
      ⟨hc, hs⟩ | ⟨hc, hs⟩ | ⟨hc, hs⟩ | ⟨hc, p, hv, hs⟩ | ⟨hc, e, hv, hs⟩
    · exact ⟨_, hs, by simp [hc]⟩
    · exact ⟨_, hs, by simp [hc]⟩
    · exact ⟨_, hs, by simp [hc]⟩
    · refine ⟨_, hs, fun _ => satInc_toNat _, by simp [rejects_of_loaded hv],
        fun _ _ => ⟨rfl, _, _, afterFrame_res .., fun heq => ?_, fun hne => ?_⟩, by simp [hc], by simp [hc], by simp [hc]⟩
      · simp [envelope_crcValid, heq]
      · simp [envelope_crcValid, hne, satInc_toNat]
    · exact ⟨_, hs, by simp [hc, rejects_of_raised hv, satInc_toNat]⟩
  · intro a rest hm
    exact ⟨_, stepOver_reset hm, afterReset_stat _⟩

/-- Settles O56: the two blocks take the same step, no counter being full. -/
theorem widerCountersTakeTheSameStep : Obligations.WiderCountersTakeTheSameStep := by
  unfold Obligations.WiderCountersTakeTheSameStep
  intro P w v hwv s hseen hinvalid hfailures
  exact stepOver_atWidth P hwv fun _ _ _ _ => ⟨hseen, hinvalid, hfailures⟩

/-- Settles O57, by the induction of `run_atWidth` over the steps: zero counters have room for fewer than `2^w` DECODEs. -/
theorem widthsAgreeOnShortRuns : Obligations.WidthsAgreeOnShortRuns := by
  unfold Obligations.WidthsAgreeOnShortRuns
  intro P w v hwv k s hstat hdecodes
  refine run_atWidth P hwv k ⟨hstat ▸ countersOrdered_zero, ?_⟩
  simpa [hstat] using hdecodes

end Sys2Proof.Proofs
